-- ==== Sys2Proof/Word.lean ====
section
/-! DEFINITION. The widths of the core's words (spec/00_scope.md R7, R8). -/

namespace Sys2Proof

/-- A 32-bit register value, `bits[32]`: read as `u32`, `i32` or `f32` as the rule that uses it says
(00_scope.md R8). Its `+` and `-` are the wrap-around arithmetic modulo 2^32 of R8. -/
abbrev Word := BitVec 32

/-- A 16-bit value: a bus request descriptor (30_encoding.md R111) or a tick's elapsed milliseconds
(30_encoding.md R115, R124). -/
abbrev Half := BitVec 16

/-- A byte address in the 4 KiB register space (20_memory.md R80). -/
abbrev Addr := BitVec 12

end Sys2Proof
end

