-- ==== Sys2Proof/Syntax.lean ====
section
/-! DEFINITION. The operations of the core as syntax: one constructor of `Instr` for each row of spec/opcode_table.json,
the wheels, and the two kinds of words the core decodes (spec/30_encoding.md R110). -/

namespace Sys2Proof

/-- The four wheels, in index order 0..3 (10_state.md R44). -/
inductive WheelId where
  /-- 0, front-left: left side -/
  | fl
  /-- 1, front-right: right side -/
  | fr
  /-- 2, rear-left: left side -/
  | rl
  /-- 3, rear-right: right side -/
  | rr
deriving DecidableEq, Repr

/-- The operations of the core (30_encoding.md R118): sixteen commands and the two bus operations. -/
inductive Instr where
  /-- OPC 0x00, 43_diffdrive.md R230 -/
  | nop
  /-- OPC 0x01, 43_diffdrive.md R231 -/
  | init
  /-- OPC 0x02, 43_diffdrive.md R236; `dt` is IMM16, in milliseconds -/
  | tick (dt : Half)
  /-- OPC 0x03, 43_diffdrive.md R233 -/
  | setSpeed
  /-- OPC 0x04, 43_diffdrive.md R242 -/
  | resetOdom
  /-- OPC 0x05, 43_diffdrive.md R243 -/
  | enableAll
  /-- OPC 0x06, 43_diffdrive.md R244 -/
  | disableAll
  /-- OPC 0x07, 43_diffdrive.md R245 -/
  | getOdom
  /-- OPC 0x08, 43_diffdrive.md R246 -/
  | getWheelStates
  /-- OPC 0x10, 42_wheel.md R208 -/
  | wEnable (w : WheelId)
  /-- OPC 0x11, 42_wheel.md R209 -/
  | wDisable (w : WheelId)
  /-- OPC 0x12, 42_wheel.md R210 -/
  | wSetTarget (w : WheelId)
  /-- OPC 0x13, 42_wheel.md R211 -/
  | wGetState (w : WheelId)
  /-- OPC 0x14, 41_pid.md R171 -/
  | pidReset (w : WheelId)
  /-- OPC 0x15, 41_pid.md R172 -/
  | pidSetCoeffs (w : WheelId)
  /-- OPC 0x16, 41_pid.md R173 -/
  | pidSetRange (w : WheelId)
  /-- Bus read, 44_bus.md R280 -/
  | rd (addr : Addr)
  /-- Bus write with its data word, 44_bus.md R281 -/
  | wr (addr : Addr) (data : Word)
deriving DecidableEq, Repr

/-- The sixteen commands alone: what a command word can decode to (30_encoding.md R118). -/
inductive Command where
  | nop
  | init
  | tick (dt : Half)
  | setSpeed
  | resetOdom
  | enableAll
  | disableAll
  | getOdom
  | getWheelStates
  | wEnable (w : WheelId)
  | wDisable (w : WheelId)
  | wSetTarget (w : WheelId)
  | wGetState (w : WheelId)
  | pidReset (w : WheelId)
  | pidSetCoeffs (w : WheelId)
  | pidSetRange (w : WheelId)
deriving DecidableEq, Repr

/-- A command as an operation of the core. -/
def Command.toInstr : Command → Instr
  | .nop => .nop
  | .init => .init
  | .tick dt => .tick dt
  | .setSpeed => .setSpeed
  | .resetOdom => .resetOdom
  | .enableAll => .enableAll
  | .disableAll => .disableAll
  | .getOdom => .getOdom
  | .getWheelStates => .getWheelStates
  | .wEnable w => .wEnable w
  | .wDisable w => .wDisable w
  | .wSetTarget w => .wSetTarget w
  | .wGetState w => .wGetState w
  | .pidReset w => .pidReset w
  | .pidSetCoeffs w => .pidSetCoeffs w
  | .pidSetRange w => .pidSetRange w

/-- The two kinds of words the core decodes (30_encoding.md R110): a command word, or a bus request descriptor with
its write-data word (R111; the data word of a read carries nothing). -/
inductive Frame where
  | command (word : Word)
  | bus (desc : Half) (data : Word)
deriving DecidableEq, Repr

end Sys2Proof
end

