-- ==== Sys2Proof/WellFormed.lean ====
section
/-! DEFINITION. Which operations have an encoding: the checks on operands that the types of spec/30_encoding.md's fields
do not already give. -/

namespace Sys2Proof

/-- The byte address of a legal access is a multiple of 4: ADDR[1:0] = 0b00 (20_memory.md R85, 30_encoding.md R111). -/
def alignedAddr (a : Addr) : Bool :=
  a.toNat % 4 == 0

/-- An operation some legal descriptor or command word encodes. Every field of a command fits its type exactly
(30_encoding.md R114, R115); a bus access must be aligned. -/
def WellFormed : Instr → Bool
  | .rd addr => alignedAddr addr
  | .wr addr _ => alignedAddr addr
  | .nop => true
  | .init => true
  | .tick _ => true
  | .setSpeed => true
  | .resetOdom => true
  | .enableAll => true
  | .disableAll => true
  | .getOdom => true
  | .getWheelStates => true
  | .wEnable _ => true
  | .wDisable _ => true
  | .wSetTarget _ => true
  | .wGetState _ => true
  | .pidReset _ => true
  | .pidSetCoeffs _ => true
  | .pidSetRange _ => true

end Sys2Proof
end

