-- ==== Sys2Proof/Decode.lean ====
section
/-! DEFINITION. The decoder of command words and bus request descriptors, total and rejecting by name, and the encoder
written from the same formats (spec/30_encoding.md R111 to R118). -/

namespace Sys2Proof

/-- Why a word is no operation. -/
inductive DecodeError where
  /-- OPC is not in the table of 30_encoding.md R118: illegal command (R117). -/
  | unknownOpcode
  /-- A bit is set in a field that the opcode must hold at 0: illegal command (30_encoding.md R117). -/
  | reservedBits
  /-- SIZE is not 0b010: malformed access (30_encoding.md R111, 20_memory.md R84). -/
  | badSize
  /-- ADDR[1:0] is not 0b00: malformed access (30_encoding.md R111, 20_memory.md R85). -/
  | misaligned
deriving DecidableEq, Repr

/-- `v[hi:lo]` read as an unsigned number, given `lo` and the field's width (00_scope.md R7). -/
def bitField {n : Nat} (v : BitVec n) (lo width : Nat) : Nat :=
  v.toNat / 2 ^ lo % 2 ^ width

/-- The wheel a 2-bit index names (30_encoding.md R114). -/
def wheelOfIndex (k : Nat) : WheelId :=
  match k % 4 with
  | 0 => .fl
  | 1 => .fr
  | 2 => .rl
  | _ => .rr

/-- The index 0..3 of a wheel (10_state.md R44). -/
def wheelIndex : WheelId → Nat
  | .fl => 0
  | .fr => 1
  | .rl => 2
  | .rr => 3

/-- A global opcode other than TICK: legal when cmd[31:8] = 0 (30_encoding.md R117). -/
def decodeGlobal (v : Word) (c : Command) : Except DecodeError Command :=
  if bitField v 8 24 = 0 then .ok c else .error .reservedBits

/-- TICK: legal when cmd[15:8] = 0; `dt` is cmd[31:16] (30_encoding.md R115, R117). -/
def decodeTick (v : Word) : Except DecodeError Command :=
  if bitField v 8 8 = 0 then .ok (.tick (BitVec.ofNat 16 (bitField v 16 16))) else .error .reservedBits

/-- A per-wheel opcode: legal when cmd[31:10] = 0; the wheel is cmd[9:8] (30_encoding.md R114, R117). -/
def decodeWheel (v : Word) (c : WheelId → Command) : Except DecodeError Command :=
  if bitField v 10 22 = 0 then .ok (c (wheelOfIndex (bitField v 8 2))) else .error .reservedBits

/-- The command a 32-bit command word encodes: OPC = cmd[7:0] selects by exact match (30_encoding.md R112, R113, R118),
then the fields the opcode holds at 0 decide legality (R117). -/
def decodeCommand (v : Word) : Except DecodeError Command :=
  match bitField v 0 8 with
  | 0x00 => decodeGlobal v .nop
  | 0x01 => decodeGlobal v .init
  | 0x02 => decodeTick v
  | 0x03 => decodeGlobal v .setSpeed
  | 0x04 => decodeGlobal v .resetOdom
  | 0x05 => decodeGlobal v .enableAll
  | 0x06 => decodeGlobal v .disableAll
  | 0x07 => decodeGlobal v .getOdom
  | 0x08 => decodeGlobal v .getWheelStates
  | 0x10 => decodeWheel v .wEnable
  | 0x11 => decodeWheel v .wDisable
  | 0x12 => decodeWheel v .wSetTarget
  | 0x13 => decodeWheel v .wGetState
  | 0x14 => decodeWheel v .pidReset
  | 0x15 => decodeWheel v .pidSetCoeffs
  | 0x16 => decodeWheel v .pidSetRange
  | _ => .error .unknownOpcode

/-- The bus operation a descriptor and its data word request: WE = bit 15, SIZE = bits 14:12, ADDR = bits 11:0
(30_encoding.md R111). -/
def decodeBus (desc : Half) (data : Word) : Except DecodeError Instr :=
  let addr : Addr := BitVec.ofNat 12 (bitField desc 0 12)
  if bitField desc 12 3 ≠ 2 then .error .badSize
  else if alignedAddr addr = false then .error .misaligned
  else if bitField desc 15 1 = 1 then .ok (.wr addr data)
  else .ok (.rd addr)

/-- The operation a frame encodes, or the reason it is none (30_encoding.md R110). -/
def decode : Frame → Except DecodeError Instr
  | .command v =>
    match decodeCommand v with
    | .ok c => .ok c.toInstr
    | .error e => .error e
  | .bus desc data => decodeBus desc data

/-! The encoder (30_encoding.md R111, R112, R118). -/

/-- The word of a global command other than TICK: the opcode, every other field 0. -/
def globalWord (opc : Nat) : Word :=
  BitVec.ofNat 32 opc

/-- The word TICK with `dt` has: IMM16 = dt, RSV and W zero, OPC = 0x02 (30_encoding.md R112, R124). -/
def tickWord (dt : Half) : Word :=
  BitVec.ofNat 32 (dt.toNat * 2 ^ 16 + 0x02)

/-- The word of a per-wheel command: W in bits 9:8 (30_encoding.md R112). -/
def wheelWord (opc : Nat) (w : WheelId) : Word :=
  BitVec.ofNat 32 (wheelIndex w * 2 ^ 8 + opc)

/-- The command word of a command (30_encoding.md R112, R118). -/
def encodeCommand : Command → Word
  | .nop => globalWord 0x00
  | .init => globalWord 0x01
  | .tick dt => tickWord dt
  | .setSpeed => globalWord 0x03
  | .resetOdom => globalWord 0x04
  | .enableAll => globalWord 0x05
  | .disableAll => globalWord 0x06
  | .getOdom => globalWord 0x07
  | .getWheelStates => globalWord 0x08
  | .wEnable w => wheelWord 0x10 w
  | .wDisable w => wheelWord 0x11 w
  | .wSetTarget w => wheelWord 0x12 w
  | .wGetState w => wheelWord 0x13 w
  | .pidReset w => wheelWord 0x14 w
  | .pidSetCoeffs w => wheelWord 0x15 w
  | .pidSetRange w => wheelWord 0x16 w

/-- A descriptor of a legal 4-byte access: WE, SIZE = 0b010, ADDR (30_encoding.md R111). -/
def busDescriptor (write : Bool) (addr : Addr) : Half :=
  BitVec.ofNat 16 ((if write then 2 ^ 15 else 0) + 2 * 2 ^ 12 + addr.toNat)

/-- The frame that encodes an operation; a read's data word is 0. -/
def encode : Instr → Frame
  | .nop => .command (encodeCommand .nop)
  | .init => .command (encodeCommand .init)
  | .tick dt => .command (encodeCommand (.tick dt))
  | .setSpeed => .command (encodeCommand .setSpeed)
  | .resetOdom => .command (encodeCommand .resetOdom)
  | .enableAll => .command (encodeCommand .enableAll)
  | .disableAll => .command (encodeCommand .disableAll)
  | .getOdom => .command (encodeCommand .getOdom)
  | .getWheelStates => .command (encodeCommand .getWheelStates)
  | .wEnable w => .command (encodeCommand (.wEnable w))
  | .wDisable w => .command (encodeCommand (.wDisable w))
  | .wSetTarget w => .command (encodeCommand (.wSetTarget w))
  | .wGetState w => .command (encodeCommand (.wGetState w))
  | .pidReset w => .command (encodeCommand (.pidReset w))
  | .pidSetCoeffs w => .command (encodeCommand (.pidSetCoeffs w))
  | .pidSetRange w => .command (encodeCommand (.pidSetRange w))
  | .rd addr => .bus (busDescriptor false addr) 0
  | .wr addr data => .bus (busDescriptor true addr) data

/-! The words of spec/opcode_table.json. -/

/-- The frame a table word of `nbits` bits stands for: 32 bits are a command word; 16 bits a descriptor, whose data
word (the bits above) is then 0; 48 bits a descriptor with its data word above it (30_encoding.md R110, R111). -/
def tableFrame (nbits w : Nat) : Option Frame :=
  if nbits = 32 then some (.command (BitVec.ofNat 32 w))
  else if nbits = 16 then some (.bus (BitVec.ofNat 16 w) 0)
  else if nbits = 48 then some (.bus (BitVec.ofNat 16 w) (BitVec.ofNat 32 (w / 2 ^ 16)))
  else none

/-- What the decoder reads from a word numbered as spec/opcode_table.json numbers its bits. -/
def decodeTableWord (nbits w : Nat) : Option Instr :=
  match tableFrame nbits w with
  | none => none
  | some f =>
    match decode f with
    | .ok i => some i
    | .error _ => none

end Sys2Proof
end

