-- ==== Sys2Proof/Config.lean ====
section
/-! DEFINITION. What an implementation fixes and the spec leaves open: the build parameters and the two parameter
functions of spec/00_scope.md R5 and R13, and the free values. Every constant here is opaque and has no body: nothing
can be proved of its value beyond its type. -/

namespace Sys2Proof.Config

/-- `WIN_N` less one. The type gives exactly the legal values 1 .. 65536 of 00_scope.md R5 (log 1). -/
opaque winNPred : Fin 65536

/-- `PWM_CEIL` less one. The type gives exactly the legal values 1 .. 2^24 of 00_scope.md R5 (log 1). -/
opaque pwmCeilPred : Fin 16777216

/-- `W_ENC` less two. The type gives exactly the legal values 2 .. 32 of 00_scope.md R5 (log 1). -/
opaque wEncPred : Fin 31

/-- `WIN_N`, the capacity of each wheel's window (00_scope.md R5, 10_state.md R40). -/
def winN : Word := BitVec.ofNat 32 (winNPred.val + 1)

/-- `PWM_CEIL`, the hardware PWM ceiling (00_scope.md R5, 10_state.md R40). -/
def pwmCeil : Word := BitVec.ofNat 32 (pwmCeilPred.val + 1)

/-- `W_ENC`, the width of each external encoder counter (00_scope.md R5, 10_state.md R40). -/
def wEnc : Word := BitVec.ofNat 32 (wEncPred.val + 2)

/-- `CosF` on every argument for which 00_scope.md R13 states no value (log 2). -/
opaque cosOpen : Word → Word

/-- `SinF` on every argument for which 00_scope.md R13 states no value (log 2). -/
opaque sinOpen : Word → Word

/-- The four written arithmetic operations of 00_scope.md R9, as labels of a free NaN pattern. -/
inductive ArithOp where
  | add
  | sub
  | mul
  | div
deriving DecidableEq, Repr

/-- FREE VALUE: where an operation delivers a NaN, the pattern the hardware would write; the spec fixes no canonical
NaN (00_scope.md R9; 95_test_vectors.md W6). The arithmetic uses it only where it is a NaN pattern (log 3). -/
opaque nanPattern : ArithOp → Word → Word → Word

/-- FREE VALUE: `f2i_trunc` of a value outside its stated domain (00_scope.md R10), which the core never
converts (log 5). -/
opaque truncOpen : Word → Word

end Sys2Proof.Config
end

