-- ==== Sys2Proof/Machine/Float.lean ====
section
/-! DEFINITION. IEEE 754 binary32 arithmetic on bit patterns, one rounding to nearest even per operation, subnormals
kept, and the conversions and comparisons (spec/00_scope.md R8 to R11, R13).

Every finite binary32 value is an integer number of units of 2^-149, the smallest subnormal. An operation converts its
operands to that integer, computes exactly, and narrows once at the end (`f32Round`). -/

namespace Sys2Proof.Machine

open Sys2Proof (Config.ArithOp)

/-- The sign bit 31 (00_scope.md R8). -/
def f32Sign (x : Word) : Bool :=
  x.msb

/-- The biased exponent, bits 30:23. -/
def f32Exp (x : Word) : Nat :=
  x.toNat / 2 ^ 23 % 2 ^ 8

/-- The fraction, bits 22:0. -/
def f32Frac (x : Word) : Nat :=
  x.toNat % 2 ^ 23

/-- `isnan` (00_scope.md R10). -/
def f32IsNaN (x : Word) : Bool :=
  f32Exp x == 255 && f32Frac x != 0

/-- An infinity of either sign. -/
def f32IsInf (x : Word) : Bool :=
  f32Exp x == 255 && f32Frac x == 0

/-- `isfinite` (00_scope.md R10). -/
def f32IsFinite (x : Word) : Bool :=
  f32Exp x != 255

/-- The magnitude in units of 2^-149. An infinity gets 2^277, above every finite magnitude, so that comparisons order
it rightly. -/
def f32Mag (x : Word) : Nat :=
  if f32Exp x = 0 then f32Frac x else (2 ^ 23 + f32Frac x) * 2 ^ (f32Exp x - 1)

/-- The signed value in units of 2^-149. -/
def f32Units (x : Word) : Int :=
  if f32Sign x then -(f32Mag x : Int) else (f32Mag x : Int)

/-- A sign and the low 31 bits. -/
def f32Pack (neg : Bool) (low : Nat) : Word :=
  BitVec.ofNat 32 ((if neg then 2 ^ 31 else 0) + low)

/-- +0.0 or -0.0. -/
def f32Zero (neg : Bool) : Word :=
  f32Pack neg 0

/-- +infinity or -infinity. -/
def f32Inf (neg : Bool) : Word :=
  f32Pack neg 0x7F800000

/-- The binary32 value nearest to `num / den` units, ties to even, with the given sign (00_scope.md R9). `drop` low
bits do not fit beside 24 significant bits; the low 31 bits of a value are its exponent field and fraction run
together, so a rounding carry moves into the exponent, and past the largest finite value the result is an infinity. -/
def f32Round (neg : Bool) (num den : Nat) : Word :=
  let drop := (num / den).log2 - 23
  let unit := den * 2 ^ drop
  let kept := num / unit
  let rest := num % unit
  let up := if unit < 2 * rest ∨ (2 * rest = unit ∧ kept % 2 = 1) then 1 else 0
  f32Pack neg (min (drop * 2 ^ 23 + kept + up) 0x7F800000)

/-- Negation: the sign bit flipped. -/
def f32Negate (x : Word) : Word :=
  x ^^^ 0x80000000#32

/-- The default quiet NaN pattern, the only NaN pattern the spec shows a result with (95_test_vectors.md W6). -/
def quietNaN : Word :=
  0x7FC00000#32

/-- The pattern of a NaN result. The spec fixes none (00_scope.md R9, 95_test_vectors.md W6), so it is a free value
that is some NaN (log 3); the one case W6 states, the default quiet NaN times a number, gives that NaN again (log 4). -/
def f32NaN (op : Config.ArithOp) (a b : Word) : Word :=
  if op = .mul ∧ ((a = quietNaN ∧ f32IsNaN b = false) ∨ (b = quietNaN ∧ f32IsNaN a = false)) then quietNaN
  else if f32IsNaN (Config.nanPattern op a b) then Config.nanPattern op a b
  else quietNaN

/-- The sum of `a` and `b` with `nan` as the pattern of a NaN result. An exact zero sum is -0.0 only when both operands
are negative. -/
def f32Sum (nan a b : Word) : Word :=
  if f32IsNaN a || f32IsNaN b then nan
  else if f32IsInf a then (if f32IsInf b && f32Sign a != f32Sign b then nan else a)
  else if f32IsInf b then b
  else
    let k := f32Units a + f32Units b
    if k = 0 then f32Zero (f32Sign a && f32Sign b) else f32Round (decide (k < 0)) k.natAbs 1

/-- `a + b` (00_scope.md R9). -/
def f32Add (a b : Word) : Word :=
  f32Sum (f32NaN .add a b) a b

/-- `a - b` (00_scope.md R9). -/
def f32Sub (a b : Word) : Word :=
  f32Sum (f32NaN .sub a b) a (f32Negate b)

/-- `a * b` (00_scope.md R9). -/
def f32Mul (a b : Word) : Word :=
  let neg := f32Sign a != f32Sign b
  if f32IsNaN a || f32IsNaN b then f32NaN .mul a b
  else if f32IsInf a || f32IsInf b then
    (if f32Mag a = 0 ∨ f32Mag b = 0 then f32NaN .mul a b else f32Inf neg)
  else f32Round neg (f32Mag a * f32Mag b) (2 ^ 149)

/-- `a / b` (00_scope.md R9). -/
def f32Div (a b : Word) : Word :=
  let neg := f32Sign a != f32Sign b
  if f32IsNaN a || f32IsNaN b then f32NaN .div a b
  else if f32IsInf a then (if f32IsInf b then f32NaN .div a b else f32Inf neg)
  else if f32IsInf b then f32Zero neg
  else if f32Mag b = 0 then (if f32Mag a = 0 then f32NaN .div a b else f32Inf neg)
  else f32Round neg (f32Mag a * 2 ^ 149) (f32Mag b)

/-- `feq(a, b)`: IEEE quiet equality (00_scope.md R11). -/
def f32Eq (a b : Word) : Bool :=
  !f32IsNaN a && !f32IsNaN b && decide (f32Units a = f32Units b)

/-- `a < b`, false when either is a NaN (00_scope.md R11). -/
def f32Lt (a b : Word) : Bool :=
  !f32IsNaN a && !f32IsNaN b && decide (f32Units a < f32Units b)

/-- `a > b`, false when either is a NaN (00_scope.md R11). -/
def f32Gt (a b : Word) : Bool :=
  f32Lt b a

/-- `u2f(v)`: an unsigned integer to the nearest binary32 (00_scope.md R10). -/
def u2f (v : Word) : Word :=
  f32Round false (v.toNat * 2 ^ 149) 1

/-- `i2f(v)`: a two's-complement integer to the nearest binary32 (00_scope.md R10). -/
def i2f (v : Word) : Word :=
  f32Round v.msb (v.toInt.natAbs * 2 ^ 149) 1

/-- The integer part of a value, toward zero. -/
def f32Trunc (x : Word) : Int :=
  if f32Sign x then -((f32Mag x / 2 ^ 149 : Nat) : Int) else ((f32Mag x / 2 ^ 149 : Nat) : Int)

/-- `f2i_trunc(x)` (00_scope.md R10): toward zero where the result fits an `i32`. Elsewhere the rule states no result and
the core never converts: a free value (log 5). -/
def f2iTrunc (x : Word) : Word :=
  if f32IsFinite x ∧ -(2 ^ 31) ≤ f32Trunc x ∧ f32Trunc x < 2 ^ 31 then BitVec.ofInt 32 (f32Trunc x)
  else Config.truncOpen x

/-- The literal 1.0 (00_scope.md R9). -/
def f32One : Word :=
  0x3F800000#32

/-- The literal 2.0 (00_scope.md R9). -/
def f32Two : Word :=
  0x40000000#32

/-- The literal 100.0 (00_scope.md R9). -/
def f32Hundred : Word :=
  0x42C80000#32

/-- The literal 1000.0 (00_scope.md R9). -/
def f32Thousand : Word :=
  0x447A0000#32

/-- `CosF`: +1.0 at either zero, open elsewhere (00_scope.md R13, log 2). -/
def cosF (x : Word) : Word :=
  if x = 0x00000000#32 ∨ x = 0x80000000#32 then f32One else Config.cosOpen x

/-- `SinF`: the argument at either zero, open elsewhere (00_scope.md R13, log 2). -/
def sinF (x : Word) : Word :=
  if x = 0x00000000#32 ∨ x = 0x80000000#32 then x else Config.sinOpen x

end Sys2Proof.Machine
end

