-- ==== Sys2Proof/Machine/State.lean ====
section
/-! DEFINITION. Everything the spec gives the machine to hold, as plain data, and the machine right after reset
(spec/10_state.md, spec/70_reset_and_hazards.md R341). INVENTORY.md lists every field with its rule. -/

namespace Sys2Proof.Machine

/-- One thing for each of the four wheels (10_state.md R44). -/
structure PerWheel (α : Type) where
  fl : α
  fr : α
  rl : α
  rr : α
deriving DecidableEq, Repr

/-- The build parameters as their registers report them, constant (00_scope.md R5, 10_state.md R40). -/
structure Params where
  /-- PARAM_WIN_N, capacity of each wheel's window -/
  winN : Word
  /-- PARAM_PWM_CEIL, largest power magnitude -/
  pwmCeil : Word
  /-- PARAM_W_ENC, width in bits of each external encoder counter -/
  wEnc : Word
deriving DecidableEq, Repr

/-- The fields of STATUS (10_state.md R34); its reserved bits have no storage. -/
structure Status where
  ready : Bool
  timeout : Bool
  err : Bool
  numErr : Bool
  busErr : Bool
  ecode : BitVec 8
deriving DecidableEq, Repr

/-- The configuration registers (10_state.md R41). -/
structure Cfg where
  kp : Word
  ki : Word
  kd : Word
  powerLimit : Word
  ticksPerRad : Word
  kt : Word
  wheelRadius : Word
  wheelSep : Word
  angMult : Word
  cmdTimeout : Word
  polarity : Word
deriving DecidableEq, Repr

/-- A sample of the sliding window: tick delta (`i32`) and elapsed milliseconds (`u32`) (40_accumulator.md R140). -/
structure Sample where
  d : Word
  t : Word
deriving DecidableEq, Repr

/-- The zero sample (40_accumulator.md R140, R142). -/
def zeroSample : Sample :=
  ⟨0, 0⟩

/-- The state of one wheel (10_state.md R45 to R53). -/
structure Wheel where
  /-- WSTATE.EN -/
  en : Bool
  /-- WSTATE.STANDSTILL -/
  standstill : Bool
  /-- WSTATE.MOT_POL -/
  motPol : Bool
  /-- WSTATE.ENC_POL -/
  encPol : Bool
  /-- ENC_PREV, a `bits[W_ENC]` held zero-extended -/
  encPrev : Word
  tickSum : Word
  timeSum : Word
  velTps : Word
  targetTps : Word
  power : Word
  distTicks : Word
  pidKp : Word
  pidKi : Word
  pidKd : Word
  pidLimit : Word
  pidInteg : Word
  pidPrev : Word
  count : Word
  head : Word
  /-- BUF[0 .. WIN_N-1] -/
  buf : List Sample
deriving DecidableEq, Repr

/-- The odometry registers (10_state.md R54). -/
structure Odom where
  poseX : Word
  poseY : Word
  poseTh : Word
  vLin : Word
  vAng : Word
deriving DecidableEq, Repr

/-- A wheel's channel as the core sees it: the external encoder counter and winding current
(10_state.md R57, R58). Not core state: the core's reset leaves it. -/
structure Channel where
  /-- ENC_CNT, a `bits[W_ENC]` held zero-extended -/
  encCnt : Word
  /-- I_WIND, an `f32` -/
  iWind : Word
deriving DecidableEq, Repr

/-- One move of an agent of 00_scope.md R6, or of the reset input (70_reset_and_hazards.md R340). -/
inductive AgentMove where
  /-- the host presents a bus request: descriptor and write data (30_encoding.md R111) -/
  | busRequest (desc : Half) (data : Word)
  /-- the tick source presents a tick carrying TICK_DT (30_encoding.md R124) -/
  | portTick (dt : Half)
  /-- the environment sets ENC_CNT[w] to a count modulo 2^W_ENC (30_encoding.md R122) -/
  | setEncoder (w : WheelId) (count : Word)
  /-- the environment sets I_WIND[w] (30_encoding.md R122) -/
  | setCurrent (w : WheelId) (current : Word)
  /-- RST: a reset between two operations (70_reset_and_hazards.md R340) -/
  | rst
deriving DecidableEq, Repr

/-- The machine. -/
structure State where
  /-- PARAM_* (10_state.md R40) -/
  params : Params
  /-- STATUS (10_state.md R34) -/
  status : Status
  /-- ARG0 (10_state.md R31) -/
  arg0 : Word
  /-- ARG1 (10_state.md R31) -/
  arg1 : Word
  /-- ARG2 (10_state.md R31) -/
  arg2 : Word
  /-- RES0 .. RES19 (10_state.md R32) -/
  res : Vector Word 20
  /-- CFG_* (10_state.md R41) -/
  cfg : Cfg
  /-- per-wheel state (10_state.md R44) -/
  wheels : PerWheel Wheel
  /-- POSE_*, ODOM_* (10_state.md R54) -/
  odom : Odom
  /-- NOW_MS (10_state.md R55) -/
  nowMs : Word
  /-- LAST_CMD_MS (10_state.md R55) -/
  lastCmdMs : Word
  /-- the channels outside the core (10_state.md R58) -/
  channels : PerWheel Channel
  /-- MODEL's field: what the last bus read returned to the host (44_bus.md R280; log 9) -/
  busRData : Word
  /-- MODEL's field: the agents' moves still to come, in the order the sequencer meets them (20_memory.md R90 to R92;
  log 6) -/
  inbox : List AgentMove
deriving DecidableEq, Repr

/-- Why the machine would stop with a fault. There is no such reason: "No behaviour of the core is modelled as fault or
stuck" (93_implementation_defined.md). Safe: nothing is cut short. -/
inductive Fault where
deriving DecidableEq, Repr

/-- Why the machine would refuse to give an operation a meaning (not the core's own refusals of 60_exceptions.md R300,
which are next states). -/
inductive Refusal where
  /-- Raised only by an arm of exec that has no meaning yet; no arm is left so. Safe: the model stops where the core
  goes on. -/
  | notModelled (mnemonic : String)
deriving DecidableEq, Repr

/-- The four copies of one thing. -/
def PerWheel.all {α : Type} (a : α) : PerWheel α :=
  ⟨a, a, a, a⟩

/-- The copy of a wheel. -/
def PerWheel.get {α : Type} (p : PerWheel α) : WheelId → α
  | .fl => p.fl
  | .fr => p.fr
  | .rl => p.rl
  | .rr => p.rr

/-- `p` with the copy of one wheel replaced. -/
def PerWheel.set {α : Type} (p : PerWheel α) (w : WheelId) (a : α) : PerWheel α :=
  match w with
  | .fl => { p with fl := a }
  | .fr => { p with fr := a }
  | .rl => { p with rl := a }
  | .rr => { p with rr := a }

/-- `for w in 0..3` with no wheel reading another's state (00_scope.md R12, 43_diffdrive.md R238). -/
def PerWheel.map {α β : Type} (f : α → β) (p : PerWheel α) : PerWheel β :=
  ⟨f p.fl, f p.fr, f p.rl, f p.rr⟩

/-- The state of wheel `w`. -/
def State.wheel (s : State) (w : WheelId) : Wheel :=
  s.wheels.get w

/-- `s` with the state of wheel `w` replaced. -/
def State.setWheel (s : State) (w : WheelId) (x : Wheel) : State :=
  { s with wheels := s.wheels.set w x }

/-- The channel of wheel `w`. -/
def State.channel (s : State) (w : WheelId) : Channel :=
  s.channels.get w

/-- `s` with the channel of wheel `w` replaced. -/
def State.setChannel (s : State) (w : WheelId) (c : Channel) : State :=
  { s with channels := s.channels.set w c }

/-- `s` with another STATUS. -/
def State.setStatus (s : State) (x : Status) : State :=
  { s with status := x }

/-- `s` with other configuration registers. -/
def State.setCfg (s : State) (x : Cfg) : State :=
  { s with cfg := x }

/-- `s` with other odometry registers. -/
def State.setOdom (s : State) (x : Odom) : State :=
  { s with odom := x }

/-- `s` with other result registers. -/
def State.setRes (s : State) (x : Vector Word 20) : State :=
  { s with res := x }

/-- `s` with another value on the read-data lines of the bus. -/
def State.setBusRData (s : State) (v : Word) : State :=
  { s with busRData := v }

/-- `s` with other moves to come. -/
def State.setInbox (s : State) (ms : List AgentMove) : State :=
  { s with inbox := ms }

/-- STATUS after reset (10_state.md R34). -/
def Status.reset : Status :=
  { ready := false, timeout := false, err := false, numErr := false, busErr := false, ecode := 0 }

/-- The configuration registers after reset (10_state.md R41). -/
def Cfg.reset : Cfg :=
  { kp := 0, ki := 0, kd := 0, powerLimit := 0, ticksPerRad := 0, kt := 0, wheelRadius := 0, wheelSep := 0,
    angMult := 0, cmdTimeout := 0, polarity := 0 }

/-- A wheel after reset, its window of `winN` slots all (0, 0) (10_state.md R45 to R53). -/
def Wheel.reset (winN : Word) : Wheel :=
  { en := false, standstill := false, motPol := false, encPol := false, encPrev := 0, tickSum := 0, timeSum := 0,
    velTps := 0, targetTps := 0, power := 0, distTicks := 0, pidKp := 0, pidKi := 0, pidKd := 0, pidLimit := 0,
    pidInteg := 0, pidPrev := 0, count := 0, head := 0, buf := List.replicate winN.toNat zeroSample }

/-- The odometry registers after reset (10_state.md R54). -/
def Odom.reset : Odom :=
  { poseX := 0, poseY := 0, poseTh := 0, vLin := 0, vAng := 0 }

/-- The machine right after power-on with the given build parameters: every core register as
70_reset_and_hazards.md R341 gives it. The channels, which the core does not reset, and the model's own fields hold
the values log 7, log 8 and log 9 name. -/
def State.resetWith (p : Params) : State :=
  { params := p, status := Status.reset, arg0 := 0, arg1 := 0, arg2 := 0, res := Vector.replicate 20 0,
    cfg := Cfg.reset, wheels := PerWheel.all (Wheel.reset p.winN), odom := Odom.reset, nowMs := 0, lastCmdMs := 0,
    channels := PerWheel.all { encCnt := 0, iWind := 0 }, busRData := 0, inbox := [] }

/-- The build parameters of this hardware, left open (00_scope.md R5). -/
def Params.open : Params :=
  { winN := Config.winN, pwmCeil := Config.pwmCeil, wEnc := Config.wEnc }

/-- The machine right after reset (70_reset_and_hazards.md R341). -/
def State.reset : State :=
  State.resetWith Params.open

end Sys2Proof.Machine
end

