-- ==== Sys2Proof/Machine/Flags.lean ====
section
/-! DEFINITION. STATUS and WSTATE as words, and every operation on their bits (spec/10_state.md R34 to R39, R45;
spec/44_bus.md R284; spec/60_exceptions.md R301, R302). -/

namespace Sys2Proof.Machine

/-- A flag as the number 0 or 1: `zext_1`. -/
def flagBit (b : Bool) : Nat :=
  if b then 1 else 0

/-- The word a read of STATUS returns; reserved bits read 0 (10_state.md R34). -/
def statusWord (x : Status) : Word :=
  BitVec.ofNat 32 (flagBit x.ready + flagBit x.timeout * 2 + flagBit x.err * 2 ^ 2 + flagBit x.numErr * 2 ^ 3 +
    flagBit x.busErr * 2 ^ 4 + x.ecode.toNat * 2 ^ 8)

/-- The word a read of WSTATE returns; reserved bits read 0 (10_state.md R45). -/
def wstateWord (x : Wheel) : Word :=
  BitVec.ofNat 32 (flagBit x.en + flagBit x.standstill * 2 + flagBit x.motPol * 2 ^ 2 + flagBit x.encPol * 2 ^ 3)

/-- `STATUS.BUSERR <- 1` (10_state.md R39, 60_exceptions.md R302). -/
def raiseBusErr (s : State) : State :=
  s.setStatus { s.status with busErr := true }

/-- `STATUS.NUMERR <- 1` when a PID output sum is a NaN; the bit is sticky (10_state.md R38, 60_exceptions.md R304). -/
def noteNumErr (nan : Bool) (s : State) : State :=
  s.setStatus { s.status with numErr := s.status.numErr || nan }

/-- `STATUS.TIMEOUT <- b` (10_state.md R36). -/
def setTimeout (b : Bool) (s : State) : State :=
  s.setStatus { s.status with timeout := b }

/-- `STATUS.READY <- 1` (10_state.md R35). -/
def setReady (s : State) : State :=
  s.setStatus { s.status with ready := true }

/-- What a legal write of `v` to STATUS does to its fields: bit 2 clears ERR and ECODE, bit 3 NUMERR, bit 4 BUSERR;
every other bit of `v` is ignored (44_bus.md R284). -/
def clearedStatus (v : Word) (x : Status) : Status :=
  { ready := x.ready
    timeout := x.timeout
    err := x.err && !v.getLsbD 2
    numErr := x.numErr && !v.getLsbD 3
    busErr := x.busErr && !v.getLsbD 4
    ecode := if v.getLsbD 2 then 0 else x.ecode }

end Sys2Proof.Machine
end

