-- ==== Sys2Proof/Machine/Operands.lean ====
section
/-! DEFINITION. Every operand form: the address map of the register space and the host's reads of it, the checks on
configuration writes, the encoder-width arithmetic and the samples of the input ports (spec/20_memory.md R88, R89;
spec/30_encoding.md R114 to R116; spec/44_bus.md R286 to R292; spec/00_scope.md R12). -/

namespace Sys2Proof.Machine

/-- The configuration registers, in address order from 0x0C0 (10_state.md R41). -/
inductive CfgReg where
  | kp
  | ki
  | kd
  | powerLimit
  | ticksPerRad
  | kt
  | wheelRadius
  | wheelSep
  | angMult
  | cmdTimeout
  | polarity
deriving DecidableEq, Repr

/-- The readable registers of one wheel, in offset order (20_memory.md R88). -/
inductive WheelReg where
  | wstate
  | encPrev
  | tickSum
  | timeSum
  | velTps
  | targetTps
  | power
  | distTicks
  | pidKp
  | pidKi
  | pidKd
  | pidLimit
  | pidInteg
  | pidPrev
  | count
  | head
deriving DecidableEq, Repr

/-- Every register of the address map (20_memory.md R88). -/
inductive Reg where
  | paramWinN
  | paramPwmCeil
  | paramWEnc
  | status
  | cmd
  | arg0
  | arg1
  | arg2
  | res (k : Fin 20)
  | cfg (c : CfgReg)
  | wheel (w : WheelId) (r : WheelReg)
  | poseX
  | poseY
  | poseTh
  | odomVLin
  | odomVAng
  | nowMs
  | lastCmdMs
deriving DecidableEq, Repr

/-- What a host write to a register does (20_memory.md R88). -/
inductive Access where
  /-- read-only: a write is a bus error -/
  | ro
  /-- read and written -/
  | rw
  /-- STATUS: read-only fields and write-1-to-clear bits -/
  | w1c
  /-- CMD: written values are executed, reads give 0 -/
  | wo
deriving DecidableEq, Repr

/-- The position of a configuration register above 0x0C0, in words (10_state.md R41). -/
def cfgIndex : CfgReg → Nat
  | .kp => 0
  | .ki => 1
  | .kd => 2
  | .powerLimit => 3
  | .ticksPerRad => 4
  | .kt => 5
  | .wheelRadius => 6
  | .wheelSep => 7
  | .angMult => 8
  | .cmdTimeout => 9
  | .polarity => 10

/-- The configuration register at a word position above 0x0C0. -/
def cfgOfIndex : Nat → Option CfgReg
  | 0 => some .kp
  | 1 => some .ki
  | 2 => some .kd
  | 3 => some .powerLimit
  | 4 => some .ticksPerRad
  | 5 => some .kt
  | 6 => some .wheelRadius
  | 7 => some .wheelSep
  | 8 => some .angMult
  | 9 => some .cmdTimeout
  | 10 => some .polarity
  | _ => none

/-- The position of a wheel register in its block, in words (20_memory.md R88). -/
def wheelRegIndex : WheelReg → Nat
  | .wstate => 0
  | .encPrev => 1
  | .tickSum => 2
  | .timeSum => 3
  | .velTps => 4
  | .targetTps => 5
  | .power => 6
  | .distTicks => 7
  | .pidKp => 8
  | .pidKi => 9
  | .pidKd => 10
  | .pidLimit => 11
  | .pidInteg => 12
  | .pidPrev => 13
  | .count => 14
  | .head => 15

/-- The wheel register at a word position of its block. -/
def wheelRegOfIndex : Nat → Option WheelReg
  | 0 => some .wstate
  | 1 => some .encPrev
  | 2 => some .tickSum
  | 3 => some .timeSum
  | 4 => some .velTps
  | 5 => some .targetTps
  | 6 => some .power
  | 7 => some .distTicks
  | 8 => some .pidKp
  | 9 => some .pidKi
  | 10 => some .pidKd
  | 11 => some .pidLimit
  | 12 => some .pidInteg
  | 13 => some .pidPrev
  | 14 => some .count
  | 15 => some .head
  | _ => none

/-- The byte address of a register (20_memory.md R88). -/
def regAddr : Reg → Nat
  | .paramWinN => 0x000
  | .paramPwmCeil => 0x004
  | .paramWEnc => 0x008
  | .status => 0x010
  | .cmd => 0x014
  | .arg0 => 0x018
  | .arg1 => 0x01C
  | .arg2 => 0x020
  | .res k => 0x040 + 4 * k.val
  | .cfg c => 0x0C0 + 4 * cfgIndex c
  | .wheel w r => 0x100 + 0x40 * wheelIndex w + 4 * wheelRegIndex r
  | .poseX => 0x200
  | .poseY => 0x204
  | .poseTh => 0x208
  | .odomVLin => 0x20C
  | .odomVAng => 0x210
  | .nowMs => 0x214
  | .lastCmdMs => 0x218

/-- The registers outside the three regular blocks (20_memory.md R88). -/
def singleRegAt (n : Nat) : Option Reg :=
  match n with
  | 0x000 => some .paramWinN
  | 0x004 => some .paramPwmCeil
  | 0x008 => some .paramWEnc
  | 0x010 => some .status
  | 0x014 => some .cmd
  | 0x018 => some .arg0
  | 0x01C => some .arg1
  | 0x020 => some .arg2
  | 0x200 => some .poseX
  | 0x204 => some .poseY
  | 0x208 => some .poseTh
  | 0x20C => some .odomVLin
  | 0x210 => some .odomVAng
  | 0x214 => some .nowMs
  | 0x218 => some .lastCmdMs
  | _ => none

/-- The register at a byte address, none where the address is unmapped or not a multiple of 4
(20_memory.md R85, R88, R89). -/
def regAt (a : Addr) : Option Reg :=
  let n := a.toNat
  if n % 4 ≠ 0 then none
  else if 0x040 ≤ n ∧ n < 0x090 then some (.res (Fin.ofNat 20 ((n - 0x040) / 4)))
  else if 0x0C0 ≤ n ∧ n < 0x100 then (cfgOfIndex ((n - 0x0C0) / 4)).map Reg.cfg
  else if 0x100 ≤ n ∧ n < 0x200 then
    (wheelRegOfIndex ((n - 0x100) % 0x40 / 4)).map (Reg.wheel (wheelOfIndex ((n - 0x100) / 0x40)))
  else singleRegAt n

/-- The access type of a register (20_memory.md R88). -/
def regAccess : Reg → Access
  | .status => .w1c
  | .cmd => .wo
  | .arg0 => .rw
  | .arg1 => .rw
  | .arg2 => .rw
  | .cfg _ => .rw
  | .paramWinN => .ro
  | .paramPwmCeil => .ro
  | .paramWEnc => .ro
  | .res _ => .ro
  | .wheel _ _ => .ro
  | .poseX => .ro
  | .poseY => .ro
  | .poseTh => .ro
  | .odomVLin => .ro
  | .odomVAng => .ro
  | .nowMs => .ro
  | .lastCmdMs => .ro

/-- The value of a configuration register. -/
def cfgRead (x : Cfg) : CfgReg → Word
  | .kp => x.kp
  | .ki => x.ki
  | .kd => x.kd
  | .powerLimit => x.powerLimit
  | .ticksPerRad => x.ticksPerRad
  | .kt => x.kt
  | .wheelRadius => x.wheelRadius
  | .wheelSep => x.wheelSep
  | .angMult => x.angMult
  | .cmdTimeout => x.cmdTimeout
  | .polarity => x.polarity

/-- The configuration registers after one of them is written. -/
def cfgWrite (x : Cfg) (c : CfgReg) (v : Word) : Cfg :=
  match c with
  | .kp => { x with kp := v }
  | .ki => { x with ki := v }
  | .kd => { x with kd := v }
  | .powerLimit => { x with powerLimit := v }
  | .ticksPerRad => { x with ticksPerRad := v }
  | .kt => { x with kt := v }
  | .wheelRadius => { x with wheelRadius := v }
  | .wheelSep => { x with wheelSep := v }
  | .angMult => { x with angMult := v }
  | .cmdTimeout => { x with cmdTimeout := v }
  | .polarity => { x with polarity := v }

/-- The value of a wheel register as the host reads it (10_state.md R45 to R53). -/
def wheelRead (x : Wheel) : WheelReg → Word
  | .wstate => wstateWord x
  | .encPrev => x.encPrev
  | .tickSum => x.tickSum
  | .timeSum => x.timeSum
  | .velTps => x.velTps
  | .targetTps => x.targetTps
  | .power => x.power
  | .distTicks => x.distTicks
  | .pidKp => x.pidKp
  | .pidKi => x.pidKi
  | .pidKd => x.pidKd
  | .pidLimit => x.pidLimit
  | .pidInteg => x.pidInteg
  | .pidPrev => x.pidPrev
  | .count => x.count
  | .head => x.head

/-- The 32-bit value of a register as a legal read returns it; CMD reads 0 (44_bus.md R280, R291, R292). -/
def readReg (s : State) : Reg → Word
  | .paramWinN => s.params.winN
  | .paramPwmCeil => s.params.pwmCeil
  | .paramWEnc => s.params.wEnc
  | .status => statusWord s.status
  | .cmd => 0
  | .arg0 => s.arg0
  | .arg1 => s.arg1
  | .arg2 => s.arg2
  | .res k => s.res[k]
  | .cfg c => cfgRead s.cfg c
  | .wheel w r => wheelRead (s.wheel w) r
  | .poseX => s.odom.poseX
  | .poseY => s.odom.poseY
  | .poseTh => s.odom.poseTh
  | .odomVLin => s.odom.vLin
  | .odomVAng => s.odom.vAng
  | .nowMs => s.nowMs
  | .lastCmdMs => s.lastCmdMs

/-- The check on a written configuration value (44_bus.md R286 to R289). -/
def cfgLegal (c : CfgReg) (v : Word) : Bool :=
  match c with
  | .kp => f32IsFinite v
  | .ki => f32IsFinite v
  | .kd => f32IsFinite v
  | .kt => f32IsFinite v
  | .angMult => f32IsFinite v
  | .ticksPerRad => f32IsFinite v && f32Gt v 0
  | .wheelRadius => f32IsFinite v && f32Gt v 0
  | .wheelSep => f32IsFinite v && f32Gt v 0
  | .powerLimit => true
  | .cmdTimeout => true
  | .polarity => bitField v 8 24 == 0

/-- `zext_16` (00_scope.md R8, 30_encoding.md R115). -/
def zext16 (dt : Half) : Word :=
  BitVec.ofNat 32 dt.toNat

/-- `v mod 2^W_ENC` (00_scope.md R8). -/
def truncEnc (wEnc v : Word) : Word :=
  BitVec.ofNat 32 (v.toNat % 2 ^ wEnc.toNat)

/-- `sext_W_ENC`: a `bits[W_ENC]` pattern as an `i32` (00_scope.md R8). -/
def sextEnc (wEnc v : Word) : Word :=
  if 2 * (v.toNat % 2 ^ wEnc.toNat) < 2 ^ wEnc.toNat then BitVec.ofNat 32 (v.toNat % 2 ^ wEnc.toNat)
  else BitVec.ofInt 32 ((v.toNat % 2 ^ wEnc.toNat : Nat) - (2 ^ wEnc.toNat : Nat) : Int)

/-- `sample EncCnt(w)` (00_scope.md R12). -/
def sampleEncCnt (s : State) (w : WheelId) : Word :=
  truncEnc s.params.wEnc (s.channel w).encCnt

/-- `sample IWind(w)` (00_scope.md R12). -/
def sampleIWind (s : State) (w : WheelId) : Word :=
  (s.channel w).iWind

/-- Bit `k` of CFG_POLARITY (10_state.md R42). -/
def polarityBit (s : State) (k : Nat) : Bool :=
  s.cfg.polarity.getLsbD k

end Sys2Proof.Machine
end

