-- ==== Sys2Proof/Machine/Ops.lean ====
section
/-! DEFINITION. The operations every unit shares: refusing a command and clearing the error (the core's only exception
and its return), bus errors, the reset, the strobe to a channel, the output ports and the moves of the environment
(spec/60_exceptions.md, spec/70_reset_and_hazards.md R340, spec/10_state.md R56 to R58). -/

namespace Sys2Proof.Machine

/-- The refusal codes of 60_exceptions.md R301. -/
inductive RefusalCode where
  | illegalCmd
  | notReady
  | alreadyInit
  | badConfig
  | badDt
  | badArg
  | badCfgWrite
deriving DecidableEq, Repr

/-- The value STATUS.ECODE takes (60_exceptions.md R301). -/
def ecodeOf : RefusalCode → BitVec 8
  | .illegalCmd => 0x01
  | .notReady => 0x02
  | .alreadyInit => 0x03
  | .badConfig => 0x04
  | .badDt => 0x05
  | .badArg => 0x06
  | .badCfgWrite => 0x07

/-- `raise Refuse(code)`: ERR and ECODE are set and nothing else changes (60_exceptions.md R300, R306). -/
def refuse (code : RefusalCode) (s : State) : State :=
  s.setStatus { s.status with err := true, ecode := ecodeOf code }

/-- The "return" from an error: the host's write-1-to-clear of STATUS (60_exceptions.md R307, 44_bus.md R284). -/
def clearErrors (v : Word) (s : State) : State :=
  s.setStatus (clearedStatus v s.status)

/-- A malformed read: BUSERR, and the bus returns 0x00000000 (44_bus.md R282, 20_memory.md R84, R89). -/
def malformedRead (s : State) : State :=
  (raiseBusErr s).setBusRData 0

/-- A malformed write: BUSERR and nothing else (44_bus.md R282, 20_memory.md R84, R89). -/
def malformedWrite (s : State) : State :=
  raiseBusErr s

/-- A malformed access, a read or a write as WE of its descriptor says (44_bus.md R282). -/
def malformedAccess (write : Bool) (s : State) : State :=
  if write then malformedWrite s else malformedRead s

/-- The reset: every piece of core state to its reset value. The channels are not reset and get no strobe
(70_reset_and_hazards.md R340, R341); what the host has read and the agents' moves to come are no core state. -/
def coreReset (s : State) : State :=
  { State.resetWith s.params with channels := s.channels, busRData := s.busRData, inbox := s.inbox }

/-- `strobe EncReset(w)`: the channel's counter reads 0 until the environment moves it (00_scope.md R12). -/
def strobeEncReset (w : WheelId) (s : State) : State :=
  s.setChannel w { s.channel w with encCnt := 0 }

/-- The environment sets ENC_CNT[w] to `n mod 2^W_ENC` (30_encoding.md R122). -/
def envSetEncoder (w : WheelId) (n : Word) (s : State) : State :=
  s.setChannel w { s.channel w with encCnt := truncEnc s.params.wEnc n }

/-- The environment sets I_WIND[w] (30_encoding.md R122). -/
def envSetCurrent (w : WheelId) (x : Word) (s : State) : State :=
  s.setChannel w { s.channel w with iWind := x }

/-- PWR_OUT[w] (10_state.md R56, 42_wheel.md R200). -/
def pwrOut (s : State) (w : WheelId) : Word :=
  if (s.wheel w).motPol then 0 - (s.wheel w).power else (s.wheel w).power

/-- DRV_EN[w] (10_state.md R56). -/
def drvEn (s : State) (w : WheelId) : Bool :=
  (s.wheel w).en

/-- An operation on one wheel that reads nothing but that wheel. -/
def onWheel (w : WheelId) (f : Wheel → Wheel) (s : State) : State :=
  s.setWheel w (f (s.wheel w))

/-- An operation on all four wheels, each reading nothing but its own state (43_diffdrive.md R238). -/
def onWheels (f : Wheel → Wheel) (s : State) : State :=
  { s with wheels := s.wheels.map f }

end Sys2Proof.Machine
end

