-- ==== Sys2Proof/Machine/Accumulator.lean ====
section
/-! DEFINITION. The sliding-window accumulator (spec/40_accumulator.md). -/

namespace Sys2Proof.Machine

/-- BUF[k]. A slot past the end of the list (no state with a full-length window has one) reads (0, 0) (log 10). -/
def bufRead (x : Wheel) (k : Nat) : Sample :=
  x.buf.getD k zeroSample

/-- `BUF[k] <- smp`; nothing where there is no slot `k` (log 10). -/
def bufWrite (x : Wheel) (k : Nat) (smp : Sample) : List Sample :=
  x.buf.set k smp

/-- AccPush (40_accumulator.md R141, R142): the wheel after the push and the sample returned, which is the zero sample
while the window fills. -/
def accPush (winN : Word) (x : Wheel) (smp : Sample) : Wheel × Sample :=
  if x.count.toNat < winN.toNat then
    ({ x with buf := bufWrite x x.count.toNat smp, count := x.count + 1 }, zeroSample)
  else
    ({ x with buf := bufWrite x x.head.toNat smp
              head := BitVec.ofNat 32 ((x.head.toNat + 1) % winN.toNat) },
      bufRead x x.head.toNat)

/-- The samples stored in the window, oldest first: BUF[0 .. COUNT-1] while it fills (HEAD is then 0), and from HEAD
around to the slot before it once it is full (40_accumulator.md R141). -/
def storedSamples (winN : Word) (x : Wheel) : List Sample :=
  (List.range x.count.toNat).map fun k => bufRead x ((x.head.toNat + k) % winN.toNat)

end Sys2Proof.Machine
end

