-- ==== Sys2Proof/Machine/Regulator.lean ====
section
/-! DEFINITION. The PID velocity regulator's internal operations (spec/41_pid.md section 1). -/

namespace Sys2Proof.Machine

/-- PidReset(w) (41_pid.md R167). -/
def pidReset (x : Wheel) : Wheel :=
  { x with pidInteg := 0, pidPrev := 0 }

/-- PidSetRange(w, L) (41_pid.md R168). -/
def pidSetRange (limit : Word) (x : Wheel) : Wheel :=
  { x with pidLimit := limit }

/-- PidSetCoeffs(w, kp, ki, kd) (41_pid.md R169). -/
def pidSetCoeffs (kp ki kd : Word) (x : Wheel) : Wheel :=
  { x with pidKp := kp, pidKi := ki, pidKd := kd }

/-- Output saturation, Clamp(s, L) (41_pid.md R166). A NaN sum gives +0.0, and `pidSumIsNaN` records it. -/
def clampOutput (sum limit : Word) : Word :=
  if f32IsNaN sum then 0
  else if f32Gt sum limit then limit
  else if f32Lt sum (f32Negate limit) then f32Negate limit
  else sum

/-- The proportional term (41_pid.md R162). -/
def pidProportional (x : Wheel) (e : Word) : Word :=
  f32Mul x.pidKp e

/-- The integral accumulator after this update's increment (41_pid.md R163). -/
def pidIntegralNext (x : Wheel) (e : Word) (dt : Half) : Word :=
  f32Add x.pidInteg (f32Mul e (u2f (zext16 dt)))

/-- The derivative term (41_pid.md R164). -/
def pidDerivative (x : Wheel) (e : Word) (dt : Half) : Word :=
  f32Div (f32Mul x.pidKd (f32Sub e x.pidPrev)) (u2f (zext16 dt))

/-- The output sum `(p + i) + d` before saturation (41_pid.md R165). -/
def pidSum (x : Wheel) (e : Word) (dt : Half) : Word :=
  f32Add (f32Add (pidProportional x e) (f32Mul x.pidKi (pidIntegralNext x e dt))) (pidDerivative x e dt)

/-- Whether STATUS.NUMERR is set by this update (41_pid.md R166). -/
def pidSumIsNaN (x : Wheel) (e : Word) (dt : Half) : Bool :=
  f32IsNaN (pidSum x e dt)

/-- The output PidUpdate returns (41_pid.md R161, R166). -/
def pidOutput (x : Wheel) (e : Word) (dt : Half) : Word :=
  clampOutput (pidSum x e dt) x.pidLimit

/-- The regulator's memory after PidUpdate (41_pid.md R161): the integral and the previous error. -/
def pidAdvance (x : Wheel) (e : Word) (dt : Half) : Wheel :=
  { x with pidInteg := pidIntegralNext x e dt, pidPrev := e }

end Sys2Proof.Machine
end

