-- ==== Sys2Proof/Machine/WheelUnit.lean ====
section
/-! DEFINITION. The wheel controller's internal operations (spec/42_wheel.md section 1). -/

namespace Sys2Proof.Machine

/-- WheelInit(w, lim) on the wheel itself (42_wheel.md R190): gains and range loaded, polarity latched, ENC_PREV zeroed.
The EncReset strobe is `strobeEncReset`. -/
def wheelInit (s : State) (w : WheelId) (lim : Word) (x : Wheel) : Wheel :=
  { pidSetRange lim (pidSetCoeffs s.cfg.kp s.cfg.ki s.cfg.kd x) with
    motPol := polarityBit s (wheelIndex w)
    encPol := polarityBit s (4 + wheelIndex w)
    encPrev := 0 }

/-- Encoder polarity correction (42_wheel.md R192). -/
def correctedCount (wEnc : Word) (x : Wheel) (raw : Word) : Word :=
  if x.encPol then truncEnc wEnc (0 - raw) else raw

/-- The tick delta, an `i32` (42_wheel.md R193). -/
def tickDelta (wEnc : Word) (x : Wheel) (cnt : Word) : Word :=
  sextEnc wEnc (truncEnc wEnc (cnt - x.encPrev))

/-- Window push, running sums and distance (42_wheel.md R194). -/
def wheelPush (winN : Word) (x : Wheel) (delta : Word) (dt : Half) : Wheel :=
  let p := accPush winN x ⟨delta, zext16 dt⟩
  { p.1 with
    tickSum := x.tickSum + delta - p.2.d
    timeSum := x.timeSum + zext16 dt - p.2.t
    distTicks := x.distTicks + delta }

/-- The velocity estimate `i2f(TICK_SUM) / (u2f(TIME_SUM) / 1000.0)` (42_wheel.md R195). -/
def velocityEstimate (tickSum timeSum : Word) : Word :=
  f32Div (i2f tickSum) (f32Div (u2f timeSum) f32Thousand)

/-- The standstill predicate: measured and target velocity both compare equal to 0.0 (42_wheel.md R196). -/
def standstillNow (x : Wheel) : Bool :=
  f32Eq x.velTps 0 && f32Eq x.targetTps 0

/-- The steps of WheelUpdate that run Enabled or not (42_wheel.md R192 to R196). -/
def wheelMeasure (p : Params) (x : Wheel) (dt : Half) (raw : Word) : Wheel :=
  let cnt := correctedCount p.wEnc x raw
  let pushed := wheelPush p.winN { x with encPrev := cnt } (tickDelta p.wEnc x cnt) dt
  let measured := { pushed with velTps := velocityEstimate pushed.tickSum pushed.timeSum }
  { measured with standstill := standstillNow measured }

/-- The regulation error `measured − target` (42_wheel.md R198). -/
def wheelError (x : Wheel) : Word :=
  f32Sub x.velTps x.targetTps

/-- Whether this tick runs PidUpdate on a measured wheel: Enabled and Regulating (42_wheel.md R191, R198). -/
def regulates (x : Wheel) : Bool :=
  x.en && !x.standstill

/-- The regulation step on a measured wheel (42_wheel.md R197 to R199). -/
def wheelRegulate (x : Wheel) (dt : Half) : Wheel :=
  if regulates x then
    { pidAdvance x (wheelError x) dt with power := f2iTrunc (pidOutput x (wheelError x) dt) }
  else if x.en then { pidReset x with power := 0 }
  else x

/-- WheelUpdate(w, dt, raw) on the wheel (42_wheel.md R191). -/
def wheelUpdate (p : Params) (x : Wheel) (dt : Half) (raw : Word) : Wheel :=
  wheelRegulate (wheelMeasure p x dt raw) dt

/-- Whether WheelUpdate sets STATUS.NUMERR (42_wheel.md R191, 41_pid.md R166). -/
def wheelUpdateNumErr (p : Params) (x : Wheel) (dt : Half) (raw : Word) : Bool :=
  let m := wheelMeasure p x dt raw
  regulates m && pidSumIsNaN m (wheelError m) dt

/-- Enable(w) (42_wheel.md R201). -/
def wheelEnable (x : Wheel) : Wheel :=
  if x.en then x else { pidReset x with en := true }

/-- Disable(w) (42_wheel.md R202). -/
def wheelDisable (x : Wheel) : Wheel :=
  { x with en := false, power := 0 }

/-- SetTarget(w, v) (42_wheel.md R203). -/
def wheelSetTarget (ticksPerRad v : Word) (x : Wheel) : Wheel :=
  { x with targetTps := f32Mul v ticksPerRad }

/-- GetVelocity(w) (42_wheel.md R204). -/
def getVelocity (s : State) (w : WheelId) : Word :=
  f32Div (s.wheel w).velTps s.cfg.ticksPerRad

/-- GetDistance(w) (42_wheel.md R205). -/
def getDistance (s : State) (w : WheelId) : Word :=
  f32Div (i2f (s.wheel w).distTicks) s.cfg.ticksPerRad

/-- GetTorque(w) (42_wheel.md R206). -/
def getTorque (s : State) (w : WheelId) : Word :=
  f32Mul (sampleIWind s w) s.cfg.kt

/-- GetDuty(w) (42_wheel.md R207). -/
def getDuty (s : State) (w : WheelId) : Word :=
  f32Mul (f32Div (i2f (s.wheel w).power) (u2f s.params.pwmCeil)) f32Hundred

/-- `zext_1(w.EN)` (42_wheel.md R211). -/
def getEnabled (s : State) (w : WheelId) : Word :=
  BitVec.ofNat 32 (flagBit (s.wheel w).en)

/-- Five results of one wheel into RES[base] .. RES[base + 4] (42_wheel.md R211, 43_diffdrive.md R246). -/
def readoutInto (s : State) (w : WheelId) (base : Nat) (r : Vector Word 20) : Vector Word 20 :=
  ((((r.setIfInBounds base (getVelocity s w)).setIfInBounds (base + 1) (getDistance s w)).setIfInBounds (base + 2)
    (getTorque s w)).setIfInBounds (base + 3) (getDuty s w)).setIfInBounds (base + 4) (getEnabled s w)

end Sys2Proof.Machine
end

