-- ==== Sys2Proof/Machine/Kinematics.lean ====
section
/-! DEFINITION. The differential-drive transform, the fail-safe stop, the tick's wheel updates and the odometry integrator
(spec/43_diffdrive.md R233 to R241). -/

namespace Sys2Proof.Machine

/-- `h <- CFG_WHEEL_SEP / 2.0` (43_diffdrive.md R234). -/
def halfSeparation (x : Cfg) : Word :=
  f32Div x.wheelSep f32Two

/-- The left setpoint of SideSetpoints(lin, ang), rad/s (43_diffdrive.md R234). -/
def leftSetpoint (x : Cfg) (lin ang : Word) : Word :=
  f32Mul (f32Div (f32Sub lin (f32Mul ang (halfSeparation x))) x.wheelRadius) x.angMult

/-- The right setpoint of SideSetpoints(lin, ang), rad/s (43_diffdrive.md R234). -/
def rightSetpoint (x : Cfg) (lin ang : Word) : Word :=
  f32Mul (f32Div (f32Add lin (f32Mul ang (halfSeparation x))) x.wheelRadius) x.angMult

/-- Both wheels of a side get that side's setpoint: 0 and 2 the left, 1 and 3 the right (43_diffdrive.md R233, R235). -/
def setSideTargets (l r : Word) (s : State) : State :=
  { s with
    wheels := { fl := wheelSetTarget s.cfg.ticksPerRad l s.wheels.fl
                fr := wheelSetTarget s.cfg.ticksPerRad r s.wheels.fr
                rl := wheelSetTarget s.cfg.ticksPerRad l s.wheels.rl
                rr := wheelSetTarget s.cfg.ticksPerRad r s.wheels.rr } }

/-- Whether the last SET_SPEED is stale: `(NOW_MS - LAST_CMD_MS) mod 2^32 > CFG_CMD_TIMEOUT`, a `u32` compare
(43_diffdrive.md R237). -/
def commandStale (s : State) : Bool :=
  decide (s.cfg.cmdTimeout.toNat < (s.nowMs - s.lastCmdMs).toNat)

/-- FailSafe() (43_diffdrive.md R237). -/
def failSafe (s : State) : State :=
  if commandStale s then setTimeout true (onWheels (fun x => { x with targetTps := 0 }) s)
  else setTimeout false s

/-- WheelUpdate of wheel `w` inside a TICK, with its effect on STATUS.NUMERR (43_diffdrive.md R236). -/
def tickWheel (dt : Half) (w : WheelId) (raw : Word) (s : State) : State :=
  noteNumErr (wheelUpdateNumErr s.params (s.wheel w) dt raw) (onWheel w (fun x => wheelUpdate s.params x dt raw) s)

/-- A wheel's measured angular velocity in rad/s, as GetVelocity (43_diffdrive.md R239). -/
def wheelOmega (s : State) (w : WheelId) : Word :=
  getVelocity s w

/-- The left side's velocity in m/s (43_diffdrive.md R239). -/
def leftVelocity (s : State) : Word :=
  f32Mul (f32Div (f32Add (wheelOmega s .fl) (wheelOmega s .rl)) f32Two) s.cfg.wheelRadius

/-- The right side's velocity in m/s (43_diffdrive.md R239). -/
def rightVelocity (s : State) : Word :=
  f32Mul (f32Div (f32Add (wheelOmega s .fr) (wheelOmega s .rr)) f32Two) s.cfg.wheelRadius

/-- Body linear velocity (43_diffdrive.md R240). -/
def bodyLinear (s : State) : Word :=
  f32Div (f32Add (leftVelocity s) (rightVelocity s)) f32Two

/-- Body angular velocity (43_diffdrive.md R240). -/
def bodyAngular (s : State) : Word :=
  f32Div (f32Sub (rightVelocity s) (leftVelocity s)) s.cfg.wheelSep

/-- `dts`: the elapsed time in seconds (43_diffdrive.md R241). -/
def tickSeconds (dt : Half) : Word :=
  f32Div (u2f (zext16 dt)) f32Thousand

/-- One forward-Euler step of the pose on the heading before the step (43_diffdrive.md R241). -/
def eulerStep (o : Odom) (vLin vAng dts : Word) : Odom :=
  { poseX := f32Add o.poseX (f32Mul (f32Mul vLin (cosF o.poseTh)) dts)
    poseY := f32Add o.poseY (f32Mul (f32Mul vLin (sinF o.poseTh)) dts)
    poseTh := f32Add o.poseTh (f32Mul vAng dts)
    vLin := vLin
    vAng := vAng }

/-- Odometry(dt) (43_diffdrive.md R239 to R241). -/
def odometry (dt : Half) (s : State) : State :=
  s.setOdom (eulerStep s.odom (bodyLinear s) (bodyAngular s) (tickSeconds dt))

/-- An accepted TICK (43_diffdrive.md R236): the four counts are sampled at one instant, time advances, the fail-safe
check runs, the wheels are updated in index order, the pose is integrated. -/
def acceptedTick (dt : Half) (s : State) : State :=
  let timed := failSafe { s with nowMs := s.nowMs + zext16 dt }
  odometry dt
    (tickWheel dt .rr (sampleEncCnt s .rr)
      (tickWheel dt .rl (sampleEncCnt s .rl)
        (tickWheel dt .fr (sampleEncCnt s .fr)
          (tickWheel dt .fl (sampleEncCnt s .fl) timed))))

end Sys2Proof.Machine
end

