-- ==== Sys2Proof/Machine/Drive.lean ====
section
/-! DEFINITION. Meanings of the global commands (spec/43_diffdrive.md). -/

namespace Sys2Proof.Machine

/-- NOP (43_diffdrive.md R230). -/
def execNop (s : State) : Host.Outcome State Fault Refusal :=
  .next s

/-- INIT's configuration check (43_diffdrive.md R231, R232). -/
def configUsable (x : Cfg) : Bool :=
  f32Gt x.ticksPerRad 0 && f32Gt x.wheelRadius 0 && f32Gt x.wheelSep 0

/-- `u2f(min(PWM_CEIL, CFG_POWER_LIMIT))`, a `u32` minimum (43_diffdrive.md R231). -/
def initLimit (s : State) : Word :=
  u2f (if s.params.pwmCeil.toNat ≤ s.cfg.powerLimit.toNat then s.params.pwmCeil else s.cfg.powerLimit)

/-- WheelInit(w, lim) with its strobe (42_wheel.md R190). -/
def initWheel (lim : Word) (w : WheelId) (s : State) : State :=
  strobeEncReset w (onWheel w (wheelInit s w lim) s)

/-- An accepted INIT (43_diffdrive.md R231). -/
def acceptedInit (s : State) : State :=
  setReady
    (initWheel (initLimit s) .rr
      (initWheel (initLimit s) .rl (initWheel (initLimit s) .fr (initWheel (initLimit s) .fl s))))

/-- INIT (43_diffdrive.md R231). -/
def execInit (s : State) : Host.Outcome State Fault Refusal :=
  .next
    (if s.status.ready then refuse .alreadyInit s
     else if configUsable s.cfg = false then refuse .badConfig s
     else acceptedInit s)

/-- TICK, from the host or the tick port (43_diffdrive.md R236, R248). -/
def execTick (dt : Half) (s : State) : Host.Outcome State Fault Refusal :=
  .next
    (if s.status.ready = false then refuse .notReady s
     else if dt = 0 then refuse .badDt s
     else acceptedTick dt s)

/-- SET_SPEED: ARG0 is the linear, ARG1 the angular body velocity (43_diffdrive.md R233). -/
def execSetSpeed (s : State) : Host.Outcome State Fault Refusal :=
  .next
    (if s.status.ready = false then refuse .notReady s
     else if (f32IsFinite s.arg0 && f32IsFinite s.arg1) = false then refuse .badArg s
     else
       { setSideTargets (leftSetpoint s.cfg s.arg0 s.arg1) (rightSetpoint s.cfg s.arg0 s.arg1) s with
         lastCmdMs := s.nowMs })

/-- RESET_ODOM, accepted in every phase (43_diffdrive.md R242). -/
def execResetOdom (s : State) : Host.Outcome State Fault Refusal :=
  .next (onWheels (fun x => { x with distTicks := 0 }) (s.setOdom { s.odom with poseX := 0, poseY := 0, poseTh := 0 }))

/-- ENABLE_ALL (43_diffdrive.md R243). -/
def execEnableAll (s : State) : Host.Outcome State Fault Refusal :=
  .next (if s.status.ready = false then refuse .notReady s else onWheels wheelEnable s)

/-- DISABLE_ALL, accepted in every phase (43_diffdrive.md R244). -/
def execDisableAll (s : State) : Host.Outcome State Fault Refusal :=
  .next (onWheels wheelDisable s)

/-- GET_ODOM, accepted in every phase (43_diffdrive.md R245). -/
def execGetOdom (s : State) : Host.Outcome State Fault Refusal :=
  .next
    (s.setRes
      (((((s.res.setIfInBounds 0 s.odom.poseX).setIfInBounds 1 s.odom.poseY).setIfInBounds 2
        s.odom.poseTh).setIfInBounds 3 s.odom.vLin).setIfInBounds 4 s.odom.vAng))

/-- GET_WHEEL_STATES: five results of each wheel, wheel w's from RES[5w] on (43_diffdrive.md R246). -/
def execGetWheelStates (s : State) : Host.Outcome State Fault Refusal :=
  .next
    (if s.status.ready = false then refuse .notReady s
     else
       s.setRes (readoutInto s .rr 15 (readoutInto s .rl 10 (readoutInto s .fr 5 (readoutInto s .fl 0 s.res)))))

end Sys2Proof.Machine
end

