-- ==== Sys2Proof/Machine/Pid.lean ====
section
/-! DEFINITION. Meanings of the regulator's host commands (spec/41_pid.md section 2). -/

namespace Sys2Proof.Machine

/-- PID_RESET (41_pid.md R171). -/
def execPidReset (w : WheelId) (s : State) : Host.Outcome State Fault Refusal :=
  .next (if s.status.ready = false then refuse .notReady s else onWheel w pidReset s)

/-- PID_SET_COEFFS: ARG0, ARG1, ARG2 are Kp, Ki, Kd (41_pid.md R172). -/
def execPidSetCoeffs (w : WheelId) (s : State) : Host.Outcome State Fault Refusal :=
  .next
    (if s.status.ready = false then refuse .notReady s
     else if (f32IsFinite s.arg0 && f32IsFinite s.arg1 && f32IsFinite s.arg2) = false then refuse .badArg s
     else onWheel w (pidSetCoeffs s.arg0 s.arg1 s.arg2) s)

/-- PID_SET_RANGE: ARG0 is max, a `u32` (41_pid.md R173). -/
def execPidSetRange (w : WheelId) (s : State) : Host.Outcome State Fault Refusal :=
  .next
    (if s.status.ready = false then refuse .notReady s
     else if s.params.pwmCeil.toNat < s.arg0.toNat then refuse .badArg s
     else onWheel w (pidSetRange (u2f s.arg0)) s)

end Sys2Proof.Machine
end

