-- ==== Sys2Proof/Machine/WheelCommands.lean ====
section
/-! DEFINITION. Meanings of the per-wheel host commands (spec/42_wheel.md section 2). -/

namespace Sys2Proof.Machine

/-- W_ENABLE (42_wheel.md R208). -/
def execWEnable (w : WheelId) (s : State) : Host.Outcome State Fault Refusal :=
  .next (if s.status.ready = false then refuse .notReady s else onWheel w wheelEnable s)

/-- W_DISABLE, accepted in every phase (42_wheel.md R209). -/
def execWDisable (w : WheelId) (s : State) : Host.Outcome State Fault Refusal :=
  .next (onWheel w wheelDisable s)

/-- W_SET_TARGET: ARG0 is the wheel's angular velocity; LAST_CMD_MS is not changed (42_wheel.md R210). -/
def execWSetTarget (w : WheelId) (s : State) : Host.Outcome State Fault Refusal :=
  .next
    (if s.status.ready = false then refuse .notReady s
     else if f32IsFinite s.arg0 = false then refuse .badArg s
     else onWheel w (wheelSetTarget s.cfg.ticksPerRad s.arg0) s)

/-- W_GET_STATE: five results into RES0 .. RES4 (42_wheel.md R211). -/
def execWGetState (w : WheelId) (s : State) : Host.Outcome State Fault Refusal :=
  .next (if s.status.ready = false then refuse .notReady s else s.setRes (readoutInto s w 0 s.res))

end Sys2Proof.Machine
end

