-- ==== Sys2Proof/Machine/Bus.lean ====
section
/-! DEFINITION. Meanings of the bus operations (spec/44_bus.md), and the execution of a command word written to CMD. -/

namespace Sys2Proof.Machine

/-- The meaning of a legal command (30_encoding.md R118). -/
def execCommand (c : Command) (s : State) : Host.Outcome State Fault Refusal :=
  match c with
  | .nop => execNop s
  | .init => execInit s
  | .tick dt => execTick dt s
  | .setSpeed => execSetSpeed s
  | .resetOdom => execResetOdom s
  | .enableAll => execEnableAll s
  | .disableAll => execDisableAll s
  | .getOdom => execGetOdom s
  | .getWheelStates => execGetWheelStates s
  | .wEnable w => execWEnable w s
  | .wDisable w => execWDisable w s
  | .wSetTarget w => execWSetTarget w s
  | .wGetState w => execWGetState w s
  | .pidReset w => execPidReset w s
  | .pidSetCoeffs w => execPidSetCoeffs w s
  | .pidSetRange w => execPidSetRange w s

/-- A command word reaching the sequencer: the legality check of 30_encoding.md R117 first, then the command's own
rule (44_bus.md R283). -/
def execCommandWord (v : Word) (s : State) : Host.Outcome State Fault Refusal :=
  match decodeCommand v with
  | .ok c => execCommand c s
  | .error _ => .next (refuse .illegalCmd s)

/-- A checked write of a configuration register (44_bus.md R286 to R289). -/
def writeCfg (c : CfgReg) (v : Word) (s : State) : State :=
  if cfgLegal c v then s.setCfg (cfgWrite s.cfg c v) else refuse .badCfgWrite s

/-- RD: an unmapped (or misaligned) address is a malformed read (44_bus.md R280, R282). -/
def execRd (addr : Addr) (s : State) : Host.Outcome State Fault Refusal :=
  match regAt addr with
  | none => .next (malformedRead s)
  | some r => .next (s.setBusRData (readReg s r))

/-- A write of `v` to a mapped register (44_bus.md R281). -/
def writeReg (r : Reg) (v : Word) (s : State) : Host.Outcome State Fault Refusal :=
  match r with
  | .cmd => execCommandWord v s
  | .status => .next (clearErrors v s)
  | .arg0 => .next { s with arg0 := v }
  | .arg1 => .next { s with arg1 := v }
  | .arg2 => .next { s with arg2 := v }
  | .cfg c => .next (writeCfg c v s)
  | .paramWinN => .next (malformedWrite s)
  | .paramPwmCeil => .next (malformedWrite s)
  | .paramWEnc => .next (malformedWrite s)
  | .res _ => .next (malformedWrite s)
  | .wheel _ _ => .next (malformedWrite s)
  | .poseX => .next (malformedWrite s)
  | .poseY => .next (malformedWrite s)
  | .poseTh => .next (malformedWrite s)
  | .odomVLin => .next (malformedWrite s)
  | .odomVAng => .next (malformedWrite s)
  | .nowMs => .next (malformedWrite s)
  | .lastCmdMs => .next (malformedWrite s)

/-- WR: an unmapped (or misaligned) address is a malformed write (44_bus.md R281, R282). -/
def execWr (addr : Addr) (v : Word) (s : State) : Host.Outcome State Fault Refusal :=
  match regAt addr with
  | none => .next (malformedWrite s)
  | some r => writeReg r v s

end Sys2Proof.Machine
end

