-- ==== Sys2Proof/Machine/Dispatch.lean ====
section
/-! DEFINITION. The meaning of every operation: one arm for each constructor of Instr. -/

namespace Sys2Proof.Machine

def exec (i : Instr) (s : State) : Host.Outcome State Fault Refusal :=
  match i with
  | .nop => Sys2Proof.Machine.execNop s
  | .init => Sys2Proof.Machine.execInit s
  | .tick dt => Sys2Proof.Machine.execTick dt s
  | .setSpeed => Sys2Proof.Machine.execSetSpeed s
  | .resetOdom => Sys2Proof.Machine.execResetOdom s
  | .enableAll => Sys2Proof.Machine.execEnableAll s
  | .disableAll => Sys2Proof.Machine.execDisableAll s
  | .getOdom => Sys2Proof.Machine.execGetOdom s
  | .getWheelStates => Sys2Proof.Machine.execGetWheelStates s
  | .wEnable w => Sys2Proof.Machine.execWEnable w s
  | .wDisable w => Sys2Proof.Machine.execWDisable w s
  | .wSetTarget w => Sys2Proof.Machine.execWSetTarget w s
  | .wGetState w => Sys2Proof.Machine.execWGetState w s
  | .pidReset w => Sys2Proof.Machine.execPidReset w s
  | .pidSetCoeffs w => Sys2Proof.Machine.execPidSetCoeffs w s
  | .pidSetRange w => Sys2Proof.Machine.execPidSetRange w s
  | .rd addr => Sys2Proof.Machine.execRd addr s
  | .wr addr data => Sys2Proof.Machine.execWr addr data s

end Sys2Proof.Machine
end

