-- ==== Sys2Proof/Machine/Fetch.lean ====
section
/-! DEFINITION. What the sequencer meets next: the next move of an agent, and the operation it stands for
(spec/20_memory.md R90 to R92, spec/30_encoding.md R111, R124). -/

namespace Sys2Proof.Machine

/-- What the sequencer performs next. -/
inductive Fetched where
  /-- no agent acts -/
  | idle
  /-- an operation of the host or the tick source -/
  | run (i : Instr)
  /-- a malformed bus request, a write or a read as its WE bit says (44_bus.md R282) -/
  | malformed (write : Bool)
  /-- the environment moves an encoder counter -/
  | encoder (w : WheelId) (count : Word)
  /-- the environment changes a winding current -/
  | current (w : WheelId) (x : Word)
  /-- the reset input -/
  | reset
deriving DecidableEq, Repr

/-- What a move stands for. A tick carries the command word 30_encoding.md R124 gives it, which is always legal, so its
second case is never taken. -/
def fetchMove : AgentMove → Fetched
  | .busRequest desc data =>
    match decode (.bus desc data) with
    | .ok i => .run i
    | .error _ => .malformed (bitField desc 15 1 == 1)
  | .portTick dt =>
    match decode (.command (tickWord dt)) with
    | .ok i => .run i
    | .error _ => .idle
  | .setEncoder w n => .encoder w n
  | .setCurrent w x => .current w x
  | .rst => .reset

/-- What the sequencer meets next. -/
def fetchNext (s : State) : Fetched :=
  match s.inbox with
  | [] => .idle
  | m :: _ => fetchMove m

/-- `s` with the next move taken. -/
def takeMove (s : State) : State :=
  s.setInbox s.inbox.tail

/-- The move that makes a table word the sequencer's next operation: a command word as the host's write of it to CMD
(44_bus.md R283), a descriptor as that bus request. -/
def moveOfFrame : Frame → AgentMove
  | .command v => .busRequest (busDescriptor true 0x014#12) v
  | .bus desc data => .busRequest desc data

/-- `s` with a table word (30_encoding.md R110) placed as the next move; unchanged where no frame has that many bits. -/
def placeTableWord (s : State) (nbits w : Nat) : State :=
  match tableFrame nbits w with
  | none => s
  | some f => s.setInbox (moveOfFrame f :: s.inbox)

end Sys2Proof.Machine
end

