-- ==== Sys2Proof/Machine/Step.lean ====
section
/-! DEFINITION. One step of the machine: the next move of an agent, performed to completion (spec/20_memory.md R90). -/

namespace Sys2Proof.Machine

/-- One step. With no move to come nothing acts and the state stays (log 6). -/
def step (s : State) : Host.Outcome State Fault Refusal :=
  match fetchNext s with
  | .idle => .next (takeMove s)
  | .run i => exec i (takeMove s)
  | .malformed write => .next (malformedAccess write (takeMove s))
  | .encoder w n => .next (envSetEncoder w n (takeMove s))
  | .current w x => .next (envSetCurrent w x (takeMove s))
  | .reset => .next (coreReset (takeMove s))

/-- `s` with the given table word as the operation the very next step performs (log 7). -/
def State.withFetchWord (s : State) (nbits w : Nat) : State :=
  placeTableWord s nbits w

end Sys2Proof.Machine
end

