-- ==== Sys2Proof/Safety.lean ====
section
/-! DEFINITION. What counts as a safe state and a right result, in the terms the statements use: the legal build
parameters, the invariants of spec/10_state.md R60 and of the rules behind it, the table of refusals, and correct
rounding. -/

namespace Sys2Proof.Machine

/-- The legal build parameters (00_scope.md R5). -/
def ParamsLegal (p : Params) : Prop :=
  (1 ≤ p.winN.toNat ∧ p.winN.toNat ≤ 65536) ∧ (1 ≤ p.pwmCeil.toNat ∧ p.pwmCeil.toNat ≤ 2 ^ 24) ∧
    (2 ≤ p.wEnc.toNat ∧ p.wEnc.toNat ≤ 32)

/-- ERR and ECODE agree: no code while ERR is 0, one of the codes 0x01 .. 0x07 while it is 1 (10_state.md R37,
60_exceptions.md R301). -/
def ErrorCodeCoherent (x : Status) : Prop :=
  (x.err = false → x.ecode = 0) ∧ (x.err = true → 1 ≤ x.ecode.toNat ∧ x.ecode.toNat ≤ 7)

/-- Every configuration register holds a legal written value or its reset value (10_state.md R41). -/
def ConfigLegal (x : Cfg) : Prop :=
  ∀ c : CfgReg, cfgLegal c (cfgRead x c) = true ∨ cfgRead x c = 0

/-- The configuration invariant: legal registers, and once INIT has succeeded the geometry and the encoder resolution stay
above 0 (10_state.md R41, 43_diffdrive.md R231). -/
def ConfigInv (s : State) : Prop :=
  ConfigLegal s.cfg ∧ (s.status.ready = true → configUsable s.cfg = true)

/-- The sum of the tick deltas of some samples, modulo 2^32. -/
def sumDeltas (l : List Sample) : Word :=
  (l.map Sample.d).sum

/-- The exact sum of the elapsed times of some samples. -/
def sumTimes (l : List Sample) : Nat :=
  (l.map fun smp => smp.t.toNat).sum

/-- The window is well formed: `WIN_N` slots, COUNT of them filled, HEAD 0 until it is full (40_accumulator.md R141). -/
def WindowShape (winN : Word) (x : Wheel) : Prop :=
  x.buf.length = winN.toNat ∧ x.count.toNat ≤ winN.toNat ∧ x.head.toNat < winN.toNat ∧
    (x.count.toNat < winN.toNat → x.head = 0)

/-- The running sums are the sums over the stored samples, TIME_SUM exactly, and every stored time is one a tick can
carry (10_state.md R60, 42_wheel.md R194). -/
def WindowSums (winN : Word) (x : Wheel) : Prop :=
  x.tickSum = sumDeltas (storedSamples winN x) ∧ x.timeSum.toNat = sumTimes (storedSamples winN x) ∧
    ∀ smp ∈ storedSamples winN x, 1 ≤ smp.t.toNat ∧ smp.t.toNat ≤ 65535

/-- The window invariant of every wheel. -/
def WindowInv (s : State) : Prop :=
  ParamsLegal s.params ∧ ∀ w, WindowShape s.params.winN (s.wheel w) ∧ WindowSums s.params.winN (s.wheel w)

/-- A disabled wheel has no power, no power exceeds the ceiling, and PID_LIMIT is an integer value in 0 .. `PWM_CEIL`
(10_state.md R50, R52, R60). -/
def PowerSafe (pwmCeil : Word) (x : Wheel) : Prop :=
  (x.en = false → x.power = 0) ∧ x.power.toInt.natAbs ≤ pwmCeil.toNat ∧
    ∃ n : Nat, n ≤ pwmCeil.toNat ∧ x.pidLimit = u2f (BitVec.ofNat 32 n)

/-- The power invariant of every wheel. -/
def PowerInv (s : State) : Prop :=
  ParamsLegal s.params ∧ ∀ w, PowerSafe s.params.pwmCeil (s.wheel w)

/-- ENC_PREV and the encoder counters are `bits[W_ENC]` (10_state.md R46, R58). -/
def EncoderInv (s : State) : Prop :=
  ∀ w, (s.wheel w).encPrev.toNat < 2 ^ s.params.wEnc.toNat ∧ (s.channel w).encCnt.toNat < 2 ^ s.params.wEnc.toNat

/-- Before INIT has succeeded every wheel, the odometry and the time registers hold their reset values
(42_wheel.md R190, 43_diffdrive.md R247, 70_reset_and_hazards.md R342). -/
def BeforeInitInv (s : State) : Prop :=
  s.status.ready = false →
    s.wheels = PerWheel.all (Wheel.reset s.params.winN) ∧ s.odom = Odom.reset ∧ s.nowMs = 0 ∧ s.lastCmdMs = 0 ∧
      s.status.timeout = false ∧ s.status.numErr = false

/-- The refusal a legal command meets in a state, from the tables of 43_diffdrive.md R247 and 60_exceptions.md R301 in
the priority of R303; none where it is accepted. -/
def refusalOf (c : Command) (s : State) : Option RefusalCode :=
  match c with
  | .nop => none
  | .resetOdom => none
  | .disableAll => none
  | .getOdom => none
  | .wDisable _ => none
  | .init =>
    if s.status.ready then some .alreadyInit
    else if f32Gt s.cfg.ticksPerRad 0 && f32Gt s.cfg.wheelRadius 0 && f32Gt s.cfg.wheelSep 0 then none
    else some .badConfig
  | .tick dt => if s.status.ready then (if dt = 0 then some .badDt else none) else some .notReady
  | .setSpeed =>
    if s.status.ready then (if f32IsFinite s.arg0 && f32IsFinite s.arg1 then none else some .badArg) else some .notReady
  | .enableAll => if s.status.ready then none else some .notReady
  | .getWheelStates => if s.status.ready then none else some .notReady
  | .wEnable _ => if s.status.ready then none else some .notReady
  | .wSetTarget _ =>
    if s.status.ready then (if f32IsFinite s.arg0 then none else some .badArg) else some .notReady
  | .wGetState _ => if s.status.ready then none else some .notReady
  | .pidReset _ => if s.status.ready then none else some .notReady
  | .pidSetCoeffs _ =>
    if s.status.ready then
      (if f32IsFinite s.arg0 && f32IsFinite s.arg1 && f32IsFinite s.arg2 then none else some .badArg)
    else some .notReady
  | .pidSetRange _ =>
    if s.status.ready then (if s.arg0.toNat ≤ s.params.pwmCeil.toNat then none else some .badArg) else some .notReady

/-- How far a finite binary32 value is from the exact number `num / den` (both in units of 2^-149, scaled by `den`). -/
def f32Distance (r : Word) (num : Int) (den : Nat) : Nat :=
  (f32Units r * den - num).natAbs

/-- `r` is the exact number `num / den` rounded to nearest, ties to even (00_scope.md R9): a finite `r` is as near as
any binary32 value, and on a tie its last bit is 0; an infinite one stands for a number at least half a unit in the last
place above the largest finite value, with its sign. -/
def RoundsToNearestEven (r : Word) (num : Int) (den : Nat) : Prop :=
  (f32IsFinite r = true → ∀ c : Word, f32IsFinite c = true →
      f32Distance r num den ≤ f32Distance c num den ∧
        (f32Distance r num den = f32Distance c num den → f32Units c ≠ f32Units r → r.toNat % 2 = 0)) ∧
    (f32IsFinite r = false → f32IsInf r = true ∧ (f32Sign r = true ↔ num < 0) ∧
      (2 ^ 25 - 1) * 2 ^ 252 * den ≤ num.natAbs) ∧
    ((2 ^ 25 - 1) * 2 ^ 252 * den ≤ num.natAbs → f32IsFinite r = false)

/-- AccPush run over some samples: the wheel after all of them and the caller's running sums, which add each pushed
sample and subtract each returned one (40_accumulator.md R143, 42_wheel.md R194). -/
def pushAll (winN : Word) : List Sample → Wheel × Word × Word → Wheel × Word × Word
  | [], a => a
  | smp :: rest, (x, d, t) =>
    pushAll winN rest
      ((accPush winN x smp).1, d + smp.d - (accPush winN x smp).2.d, t + smp.t - (accPush winN x smp).2.t)

/-- The command the machine's next step executes: the one a host write to CMD encodes, or the tick on the tick port
(44_bus.md R283, 30_encoding.md R124); none where the next move is no legal command. -/
def nextCommand (s : State) : Option Command :=
  match s.inbox with
  | .busRequest desc data :: _ =>
    if desc = 0xA014 then
      (match decodeCommand data with
        | .ok c => some c
        | .error _ => none)
    else none
  | .portTick dt :: _ => some (.tick dt)
  | _ => none

/-- The command words of GET_ODOM, GET_WHEEL_STATES and W_GET_STATE, the only ones that write RES (10_state.md R32). -/
def writesResults : Command → Bool
  | .getOdom => true
  | .getWheelStates => true
  | .wGetState _ => true
  | .nop => false
  | .init => false
  | .tick _ => false
  | .setSpeed => false
  | .resetOdom => false
  | .enableAll => false
  | .disableAll => false
  | .wEnable _ => false
  | .wDisable _ => false
  | .wSetTarget _ => false
  | .pidReset _ => false
  | .pidSetCoeffs _ => false
  | .pidSetRange _ => false

end Sys2Proof.Machine
end

