-- ==== Sys2Proof/Certificates/Slice0/Obligations.lean ====
section
/-! DEFINITION. The statements about the model, from the numbered rules of spec/. -/

open Sys2Proof Sys2Proof.Machine

/-! Encoding and decoding (spec/30_encoding.md). -/

/-- 30_encoding.md R111, R112, R118: decoding the encoding of an operation gives the operation back, for every operand
the encoding admits. -/
def Obligations.DecodeOfEncodeIsTheInstruction : Prop :=
  ∀ i : Instr, WellFormed i = true → decode (encode i) = .ok i

/-- 30_encoding.md R111, R112, R117, R118: the legal command words are exactly the encodings, each of one command, and a
bus request that decodes is the one its operation encodes to (the data word of a read apart, which carries nothing). -/
def Obligations.LegalWordsAreExactlyTheEncodings : Prop :=
  (∀ (v : Word) (c : Command), decodeCommand v = .ok c ↔ v = encodeCommand c) ∧
    ∀ (desc : Half) (data : Word) (i : Instr), decodeBus desc data = .ok i →
      WellFormed i = true ∧
        ((∃ a, i = .rd a ∧ encode i = .bus desc 0) ∨ (∃ a, i = .wr a data ∧ encode i = .bus desc data))

/-- 30_encoding.md R117: exactly the words of its four cases are illegal, and a write of one to CMD is refused with
ILLEGAL_CMD. -/
def Obligations.IllegalCommandWordsAreRefused : Prop :=
  ∀ (v : Word) (s : State),
    let opc := (v.extractLsb' 0 8).toNat
    let global := opc ≤ 0x08
    let perWheel := 0x10 ≤ opc ∧ opc ≤ 0x16
    ((∃ e, decodeCommand v = .error e) ↔
      ((¬global ∧ ¬perWheel) ∨ (global ∧ opc ≠ 0x02 ∧ v.extractLsb' 8 24 ≠ 0) ∨
        (opc = 0x02 ∧ v.extractLsb' 8 8 ≠ 0) ∨ (perWheel ∧ v.extractLsb' 10 22 ≠ 0))) ∧
    ((∃ e, decodeCommand v = .error e) →
      exec (.wr 0x014 v) s = .next { s with status := { s.status with err := true, ecode := 0x01 } })

/-- 30_encoding.md R111, R112, R118: a few words written out from the formats decode to their operations. -/
def Obligations.WordsOfTheSpecDecode : Prop :=
  decode (.command 0x00140002) = .ok (.tick 20) ∧ decode (.command 0x00000003) = .ok .setSpeed ∧
    decode (.command 0x00000312) = .ok (.wSetTarget .rr) ∧ decode (.command 0x00000215) = .ok (.pidSetCoeffs .rl) ∧
    decode (.bus 0x2010 0) = .ok (.rd 0x010) ∧ decode (.bus 0xA014 0x00000001) = .ok (.wr 0x014 1)

/-! The register space (spec/20_memory.md, spec/44_bus.md). -/

/-- 20_memory.md R88: every register is found at its address and at no other. -/
def Obligations.AddressMapIsOneToOne : Prop :=
  (∀ r : Reg, regAt (BitVec.ofNat 12 (regAddr r)) = some r) ∧
    ∀ (a : Addr) (r : Reg), regAt a = some r → a.toNat = regAddr r

/-- 20_memory.md R89: the unmapped word addresses are the five ranges, reads of them return 0 and are bus errors, writes
change nothing and are bus errors. -/
def Obligations.UnmappedAddressesAreBusErrors : Prop :=
  ∀ (a : Addr), a.toNat % 4 = 0 →
    ((regAt a = none ↔
        (a.toNat = 0x00C ∨ (0x024 ≤ a.toNat ∧ a.toNat ≤ 0x03C) ∨ (0x090 ≤ a.toNat ∧ a.toNat ≤ 0x0BC) ∨
          (0x0EC ≤ a.toNat ∧ a.toNat ≤ 0x0FC) ∨ (0x21C ≤ a.toNat ∧ a.toNat ≤ 0xFFC))) ∧
      (regAt a = none → ∀ (s : State) (v : Word),
        exec (.rd a) s = .next { s with status := { s.status with busErr := true }, busRData := 0 } ∧
          exec (.wr a v) s = .next { s with status := { s.status with busErr := true } }))

/-- 44_bus.md R280, R291, R292: a read of a mapped register returns its current value, CMD reads 0, and nothing else
changes. The returned value stands in the model's own field busRData (log 9). -/
def Obligations.ReadReturnsTheRegister : Prop :=
  ∀ (r : Reg) (s : State),
    exec (.rd (BitVec.ofNat 12 (regAddr r))) s = .next { s with busRData := readReg s r } ∧ readReg s .cmd = 0

/-- 10_state.md R34, R45: where each field stands in STATUS and WSTATE as read, reserved bits 0. -/
def Obligations.StatusAndWheelStateLayout : Prop :=
  ∀ (s : State) (w : WheelId) (k : Nat),
    ((readReg s .status).getLsbD k =
      if k = 0 then s.status.ready else if k = 1 then s.status.timeout else if k = 2 then s.status.err
      else if k = 3 then s.status.numErr else if k = 4 then s.status.busErr
      else if 8 ≤ k then s.status.ecode.getLsbD (k - 8) else false) ∧
    ((readReg s (.wheel w .wstate)).getLsbD k =
      if k = 0 then (s.wheel w).en else if k = 1 then (s.wheel w).standstill else if k = 2 then (s.wheel w).motPol
      else if k = 3 then (s.wheel w).encPol else false)

/-- 44_bus.md R285: a write to ARG0, ARG1 or ARG2 stores the value unchanged and changes nothing else. -/
def Obligations.ArgumentWritesStore : Prop :=
  ∀ (s : State) (v : Word),
    exec (.wr 0x018 v) s = .next { s with arg0 := v } ∧ exec (.wr 0x01C v) s = .next { s with arg1 := v } ∧
      exec (.wr 0x020 v) s = .next { s with arg2 := v }

/-- 44_bus.md R284: a write to STATUS clears what bits 2, 3 and 4 of the value name and nothing else; it is no bus
error. -/
def Obligations.StatusWriteClearsNamedBits : Prop :=
  ∀ (s : State) (v : Word), ∃ x : Status,
    exec (.wr 0x010 v) s = .next { s with status := x } ∧ x.ready = s.status.ready ∧ x.timeout = s.status.timeout ∧
      (v.getLsbD 2 = true → x.err = false ∧ x.ecode = 0x00) ∧
      (v.getLsbD 2 = false → x.err = s.status.err ∧ x.ecode = s.status.ecode) ∧
      (v.getLsbD 3 = true → x.numErr = false) ∧ (v.getLsbD 3 = false → x.numErr = s.status.numErr) ∧
      (v.getLsbD 4 = true → x.busErr = false) ∧ (v.getLsbD 4 = false → x.busErr = s.status.busErr)

/-- 44_bus.md R286 to R289: which values a write to each configuration register accepts; an accepted value is stored and
nothing else changes, a refused one leaves the register and is recorded as BAD_CFG_WRITE. -/
def Obligations.ConfigWritesAreChecked : Prop :=
  ∀ (s : State) (c : CfgReg) (v : Word),
    (let accepted : Prop :=
      match c with
      | .powerLimit => True
      | .cmdTimeout => True
      | .polarity => v.toNat < 2 ^ 8
      | .ticksPerRad => f32IsFinite v = true ∧ f32Gt v 0 = true
      | .wheelRadius => f32IsFinite v = true ∧ f32Gt v 0 = true
      | .wheelSep => f32IsFinite v = true ∧ f32Gt v 0 = true
      | .kp => f32IsFinite v = true
      | .ki => f32IsFinite v = true
      | .kd => f32IsFinite v = true
      | .kt => f32IsFinite v = true
      | .angMult => f32IsFinite v = true
    (accepted → ∃ x : Cfg, exec (.wr (BitVec.ofNat 12 (regAddr (.cfg c))) v) s = .next { s with cfg := x } ∧
      cfgRead x c = v ∧ ∀ c', c' ≠ c → cfgRead x c' = cfgRead s.cfg c') ∧
    (¬accepted → exec (.wr (BitVec.ofNat 12 (regAddr (.cfg c))) v) s =
      .next { s with status := { s.status with err := true, ecode := 0x07 } }))

/-- 44_bus.md R290: a write to any register that is neither CMD, STATUS, an ARG nor a CFG register is a bus error and
changes nothing else. -/
def Obligations.ReadOnlyWritesAreBusErrors : Prop :=
  ∀ (r : Reg) (s : State) (v : Word), r ≠ .cmd → r ≠ .status → r ≠ .arg0 → r ≠ .arg1 → r ≠ .arg2 →
    (∀ c, r ≠ .cfg c) →
    exec (.wr (BitVec.ofNat 12 (regAddr r)) v) s = .next { s with status := { s.status with busErr := true } }

/-! The step (spec/20_memory.md R90 to R92, spec/30_encoding.md R124). -/

/-- A step runs the decoded bus operation, on the state with that request taken (30_encoding.md R111, 20_memory.md
R90). -/
def Obligations.StepRunsTheDecodedBusRequest : Prop :=
  ∀ (s : State) (desc : Half) (data : Word) (ms : List AgentMove) (i : Instr),
    s.inbox = .busRequest desc data :: ms → decode (.bus desc data) = .ok i → step s = exec i { s with inbox := ms }

/-- 30_encoding.md R124: a tick on the tick port runs TICK with its `dt`, with exactly the effect of a host write of its
command word to CMD; its word is never illegal. -/
def Obligations.StepRunsAPortTickAsTick : Prop :=
  ∀ (s : State) (dt : Half) (ms : List AgentMove), s.inbox = .portTick dt :: ms →
    tickWord dt = dt ++ 0x0002#16 ∧ decode (.command (tickWord dt)) = .ok (.tick dt) ∧
      step s = exec (.tick dt) { s with inbox := ms } ∧
      step s = exec (.wr 0x014 (tickWord dt)) { s with inbox := ms }

/-- 44_bus.md R283: a host write of a command's word to CMD runs that command as one operation. -/
def Obligations.StepRunsACommandWrittenToCmd : Prop :=
  ∀ (s : State) (c : Command) (ms : List AgentMove), s.inbox = .busRequest 0xA014 (encodeCommand c) :: ms →
    step s = exec c.toInstr { s with inbox := ms }

/-- 44_bus.md R282: an access is malformed for a size other than 4 bytes, a misaligned or unmapped address, or a write
to a read-only register; it sets BUSERR, a malformed read returns 0, and nothing else changes, so no command runs. -/
def Obligations.MalformedAccessOnlySetsBusErr : Prop :=
  ∀ (s : State) (desc : Half) (data : Word) (ms : List AgentMove), s.inbox = .busRequest desc data :: ms →
    (desc.extractLsb' 12 3 ≠ 0b010 ∨ desc.extractLsb' 0 2 ≠ 0b00 ∨ regAt (desc.extractLsb' 0 12) = none ∨
      (desc.getLsbD 15 = true ∧ (regAt (desc.extractLsb' 0 12)).map regAccess = some .ro)) →
    step s = .next
      { s with
        inbox := ms
        status := { s.status with busErr := true }
        busRData := if desc.getLsbD 15 then s.busRData else 0 }

/-- 60_exceptions.md R302, R306 and 70_reset_and_hazards.md R359: no step stops; every one answers a next state. -/
def Obligations.EveryStepAnswersNext : Prop :=
  ∀ s : State, ∃ t, step s = .next t

/-- 30_encoding.md R122, 10_state.md R58: a move of the environment changes the channel it names, a count modulo
2^W_ENC, and nothing the core holds. -/
def Obligations.EnvironmentMovesChangeOnlyTheChannel : Prop :=
  ∀ (s : State) (w : WheelId) (v : Word) (ms : List AgentMove),
    (s.inbox = .setEncoder w v :: ms → ∃ ch : PerWheel Channel,
      step s = .next { s with inbox := ms, channels := ch } ∧
        (ch.get w).encCnt.toNat = v.toNat % 2 ^ s.params.wEnc.toNat % 2 ^ 32 ∧ (ch.get w).iWind = (s.channel w).iWind ∧
        ∀ w', w' ≠ w → ch.get w' = s.channel w') ∧
    (s.inbox = .setCurrent w v :: ms → ∃ ch : PerWheel Channel,
      step s = .next { s with inbox := ms, channels := ch } ∧
        (ch.get w).iWind = v ∧ (ch.get w).encCnt = (s.channel w).encCnt ∧ ∀ w', w' ≠ w → ch.get w' = s.channel w')

/-- 70_reset_and_hazards.md R340, R341: the reset input gives every core register its reset value and leaves the
channels. That what the host has read and the moves to come are kept is the model's choice (log 9, log 11). -/
def Obligations.ResetInputResetsTheCoreOnly : Prop :=
  ∀ (s : State) (ms : List AgentMove), s.inbox = .rst :: ms → ∃ t,
    step s = .next t ∧
      (∀ r : Reg, readReg t r =
        match r with
        | .paramWinN => readReg s r
        | .paramPwmCeil => readReg s r
        | .paramWEnc => readReg s r
        | _ => 0) ∧
      (∀ w, (t.wheel w).buf = List.replicate s.params.winN.toNat ⟨0, 0⟩ ∧ pwrOut t w = 0 ∧ drvEn t w = false) ∧
      t.channels = s.channels ∧ t.busRData = s.busRData ∧ t.inbox = ms

/-- 10_state.md R61, 70_reset_and_hazards.md R341: the state right after reset. The build parameters are the open ones of
00_scope.md R5, within their legal ranges. -/
def Obligations.ResetStateRegisters : Prop :=
  (∀ r : Reg, r ≠ .paramWinN → r ≠ .paramPwmCeil → r ≠ .paramWEnc → readReg State.reset r = 0) ∧
    readReg State.reset .paramWinN = Config.winN ∧ readReg State.reset .paramPwmCeil = Config.pwmCeil ∧
    readReg State.reset .paramWEnc = Config.wEnc ∧ ParamsLegal State.reset.params ∧
    ∀ w, (State.reset.wheel w).buf = List.replicate Config.winN.toNat ⟨0, 0⟩ ∧ pwrOut State.reset w = 0 ∧
      drvEn State.reset w = false

/-! Global commands (spec/43_diffdrive.md). -/

/-- 43_diffdrive.md R230: NOP changes no state, in every phase. -/
def Obligations.NopChangesNothing : Prop :=
  ∀ s : State, exec .nop s = .next s

/-- 43_diffdrive.md R231, 42_wheel.md R190: an accepted INIT loads gains, range and polarity of every wheel, zeroes
ENC_PREV, strobes every encoder counter to 0 and sets READY; nothing else changes. -/
def Obligations.InitLoadsEveryWheel : Prop :=
  ∀ s : State, s.status.ready = false → f32Gt s.cfg.ticksPerRad 0 = true → f32Gt s.cfg.wheelRadius 0 = true →
    f32Gt s.cfg.wheelSep 0 = true → ∃ t,
      exec .init s = .next t ∧
        t = { s with status := { s.status with ready := true }, wheels := t.wheels, channels := t.channels } ∧
        ∀ w,
          t.wheel w =
            { s.wheel w with
              pidKp := s.cfg.kp
              pidKi := s.cfg.ki
              pidKd := s.cfg.kd
              pidLimit := u2f (BitVec.ofNat 32 (min s.params.pwmCeil.toNat s.cfg.powerLimit.toNat))
              motPol := s.cfg.polarity.getLsbD (wheelIndex w)
              encPol := s.cfg.polarity.getLsbD (4 + wheelIndex w)
              encPrev := 0 } ∧
          t.channel w = { s.channel w with encCnt := 0 }

/-- 43_diffdrive.md R236, R237: an accepted TICK advances NOW_MS, applies the fail-safe stop before the wheels, updates
every wheel with the count sampled before anything changed, and changes nothing but these and the odometry. -/
def Obligations.TickUpdatesEveryWheel : Prop :=
  ∀ (s : State) (dt : Half), s.status.ready = true → dt ≠ 0 → ∃ t,
    exec (.tick dt) s = .next t ∧
      t =
        { s with
          status := { s.status with timeout := t.status.timeout, numErr := t.status.numErr }
          wheels := t.wheels
          odom := t.odom
          nowMs := s.nowMs + dt.setWidth 32 } ∧
      (t.status.timeout = true ↔ s.cfg.cmdTimeout < s.nowMs + dt.setWidth 32 - s.lastCmdMs) ∧
      (∀ w,
        t.wheel w =
          wheelUpdate s.params
            { s.wheel w with targetTps := if t.status.timeout then 0 else (s.wheel w).targetTps } dt
            (sampleEncCnt s w)) ∧
      (t.status.numErr = true ↔
        s.status.numErr = true ∨ ∃ w, wheelUpdateNumErr s.params
          { s.wheel w with targetTps := if t.status.timeout then 0 else (s.wheel w).targetTps } dt
          (sampleEncCnt s w) = true)

/-- 43_diffdrive.md R239 to R241: the tick's odometry step, from the velocities the wheels have after it: forward Euler
on the heading before the step. -/
def Obligations.TickIntegratesThePose : Prop :=
  ∀ (s t : State) (dt : Half), s.status.ready = true → dt ≠ 0 → exec (.tick dt) s = .next t →
    let om := fun w => f32Div (t.wheel w).velTps s.cfg.ticksPerRad
    let vL := f32Mul (f32Div (f32Add (om .fl) (om .rl)) 0x40000000) s.cfg.wheelRadius
    let vR := f32Mul (f32Div (f32Add (om .fr) (om .rr)) 0x40000000) s.cfg.wheelRadius
    let dts := f32Div (u2f (dt.setWidth 32)) 0x447A0000
    t.odom.vLin = f32Div (f32Add vL vR) 0x40000000 ∧ t.odom.vAng = f32Div (f32Sub vR vL) s.cfg.wheelSep ∧
      t.odom.poseX = f32Add s.odom.poseX (f32Mul (f32Mul t.odom.vLin (cosF s.odom.poseTh)) dts) ∧
      t.odom.poseY = f32Add s.odom.poseY (f32Mul (f32Mul t.odom.vLin (sinF s.odom.poseTh)) dts) ∧
      t.odom.poseTh = f32Add s.odom.poseTh (f32Mul t.odom.vAng dts)

/-- 43_diffdrive.md R233 to R235, 42_wheel.md R203: an accepted SET_SPEED gives both wheels of a side that side's
setpoint in ticks per second, refreshes the timestamp and changes nothing else. -/
def Obligations.SetSpeedWritesTheSideTargets : Prop :=
  ∀ s : State, s.status.ready = true → f32IsFinite s.arg0 = true → f32IsFinite s.arg1 = true →
    let h := f32Div s.cfg.wheelSep 0x40000000
    let l := f32Mul (f32Div (f32Sub s.arg0 (f32Mul s.arg1 h)) s.cfg.wheelRadius) s.cfg.angMult
    let r := f32Mul (f32Div (f32Add s.arg0 (f32Mul s.arg1 h)) s.cfg.wheelRadius) s.cfg.angMult
    ∃ t,
      exec .setSpeed s = .next t ∧ t = { s with wheels := t.wheels, lastCmdMs := s.nowMs } ∧
        ∀ w,
          t.wheel w =
            { s.wheel w with
              targetTps := f32Mul (if w = .fl ∨ w = .rl then l else r) s.cfg.ticksPerRad }

/-- 43_diffdrive.md R242: RESET_ODOM zeroes the pose and every distance, in every phase, and changes nothing else. -/
def Obligations.ResetOdomZeroesPoseAndDistance : Prop :=
  ∀ s : State, ∃ t,
    exec .resetOdom s = .next t ∧
      t = { s with odom := { s.odom with poseX := 0, poseY := 0, poseTh := 0 }, wheels := t.wheels } ∧
      ∀ w, t.wheel w = { s.wheel w with distTicks := 0 }

/-- 43_diffdrive.md R245: GET_ODOM copies the pose and the body velocities into RES0 to RES4, in every phase. -/
def Obligations.GetOdomCopiesThePose : Prop :=
  ∀ s : State, ∃ r : Vector Word 20,
    exec .getOdom s = .next { s with res := r } ∧
      (r[0] = s.odom.poseX ∧ r[1] = s.odom.poseY ∧ r[2] = s.odom.poseTh ∧ r[3] = s.odom.vLin ∧ r[4] = s.odom.vAng) ∧
      ∀ k : Fin 20, 5 ≤ k.val → r[k] = s.res[k]

/-- 43_diffdrive.md R246, 42_wheel.md R204 to R207: GET_WHEEL_STATES fills five results for each wheel and changes
nothing else. -/
def Obligations.GetWheelStatesFillsEveryResult : Prop :=
  ∀ s : State, s.status.ready = true → ∃ r : Vector Word 20,
    exec .getWheelStates s = .next { s with res := r } ∧
      ∀ (w : WheelId) (k : Fin 20),
        (k.val = 5 * wheelIndex w → r[k] = f32Div (s.wheel w).velTps s.cfg.ticksPerRad) ∧
        (k.val = 5 * wheelIndex w + 1 → r[k] = f32Div (i2f (s.wheel w).distTicks) s.cfg.ticksPerRad) ∧
        (k.val = 5 * wheelIndex w + 2 → r[k] = f32Mul (s.channel w).iWind s.cfg.kt) ∧
        (k.val = 5 * wheelIndex w + 3 →
          r[k] = f32Mul (f32Div (i2f (s.wheel w).power) (u2f s.params.pwmCeil)) 0x42C80000) ∧
        (k.val = 5 * wheelIndex w + 4 → r[k] = if (s.wheel w).en then 1 else 0)

/-! Enable and disable, both forms (spec/42_wheel.md R201, R202, R208, R209; spec/43_diffdrive.md R243, R244). -/

/-- 42_wheel.md R201, R208, 43_diffdrive.md R243: W_ENABLE and ENABLE_ALL enable their wheels and reset the regulator of
those that were Disabled; an Enabled wheel and every other wheel are unchanged, and so is everything else. -/
def Obligations.EnableResetsOnlyDisabledWheels : Prop :=
  ∀ (s : State) (c : WheelId → Bool) (i : Instr), s.status.ready = true →
    ((i = .enableAll ∧ c = fun _ => true) ∨ ∃ w, i = .wEnable w ∧ c = fun w' => decide (w' = w)) → ∃ t,
      exec i s = .next t ∧ t = { s with wheels := t.wheels } ∧
        ∀ w,
          t.wheel w =
            if c w = true ∧ (s.wheel w).en = false then { s.wheel w with en := true, pidInteg := 0, pidPrev := 0 }
            else s.wheel w

/-- 42_wheel.md R202, R209, 43_diffdrive.md R244: W_DISABLE and DISABLE_ALL disable their wheels and zero their power,
in every phase; every other wheel and everything else are unchanged. And 42_wheel.md R200, 10_state.md R56: in every
state the ports of a wheel follow it: PWR_OUT is POWER, negated when MOT_POL is 1, and DRV_EN is EN; so a disabled
wheel's ports are 0. -/
def Obligations.DisableZeroesPower : Prop :=
  (∀ (s : State) (w : WheelId),
    pwrOut s w = (if (s.wheel w).motPol = true then 0 - (s.wheel w).power else (s.wheel w).power) ∧
      drvEn s w = (s.wheel w).en) ∧
  ∀ (s : State) (c : WheelId → Bool) (i : Instr),
    ((i = .disableAll ∧ c = fun _ => true) ∨ ∃ w, i = .wDisable w ∧ c = fun w' => decide (w' = w)) → ∃ t,
      exec i s = .next t ∧ t = { s with wheels := t.wheels } ∧
        ∀ w,
          (t.wheel w = if c w = true then { s.wheel w with en := false, power := 0 } else s.wheel w) ∧
            (c w = true → pwrOut t w = 0 ∧ drvEn t w = false)

/-! Per-wheel commands (spec/42_wheel.md section 2, spec/41_pid.md section 2). -/

/-- 42_wheel.md R203, R210: an accepted W_SET_TARGET writes one wheel's target and nothing else, LAST_CMD_MS
included. -/
def Obligations.WSetTargetWritesOneTarget : Prop :=
  ∀ (s : State) (w : WheelId), s.status.ready = true → f32IsFinite s.arg0 = true → ∃ t,
    exec (.wSetTarget w) s = .next t ∧ t = { s with wheels := t.wheels } ∧
      ∀ w', t.wheel w' =
        if w' = w then { s.wheel w with targetTps := f32Mul s.arg0 s.cfg.ticksPerRad } else s.wheel w'

/-- 42_wheel.md R204 to R207, R211: W_GET_STATE reads one wheel out into RES0 to RES4 and changes nothing else. -/
def Obligations.WGetStateReadsOneWheel : Prop :=
  ∀ (s : State) (w : WheelId), s.status.ready = true → ∃ r : Vector Word 20,
    exec (.wGetState w) s = .next { s with res := r } ∧
      (r[0] = f32Div (s.wheel w).velTps s.cfg.ticksPerRad ∧
        r[1] = f32Div (i2f (s.wheel w).distTicks) s.cfg.ticksPerRad ∧ r[2] = f32Mul (s.channel w).iWind s.cfg.kt ∧
        r[3] = f32Mul (f32Div (i2f (s.wheel w).power) (u2f s.params.pwmCeil)) 0x42C80000 ∧
        r[4] = if (s.wheel w).en then 1 else 0) ∧
      ∀ k : Fin 20, 5 ≤ k.val → r[k] = s.res[k]

/-- 41_pid.md R167, R171: an accepted PID_RESET zeroes one wheel's integral and previous error and nothing else. -/
def Obligations.PidResetClearsOneRegulator : Prop :=
  ∀ (s : State) (w : WheelId), s.status.ready = true → ∃ t,
    exec (.pidReset w) s = .next t ∧ t = { s with wheels := t.wheels } ∧
      ∀ w', t.wheel w' = if w' = w then { s.wheel w with pidInteg := 0, pidPrev := 0 } else s.wheel w'

/-- 41_pid.md R169, R172: an accepted PID_SET_COEFFS writes one wheel's three gains from ARG0 to ARG2 and nothing
else. -/
def Obligations.PidSetCoeffsWritesThreeGains : Prop :=
  ∀ (s : State) (w : WheelId), s.status.ready = true → f32IsFinite s.arg0 = true → f32IsFinite s.arg1 = true →
    f32IsFinite s.arg2 = true → ∃ t,
      exec (.pidSetCoeffs w) s = .next t ∧ t = { s with wheels := t.wheels } ∧
        ∀ w', t.wheel w' =
          if w' = w then { s.wheel w with pidKp := s.arg0, pidKi := s.arg1, pidKd := s.arg2 } else s.wheel w'

/-- 41_pid.md R168, R173: an accepted PID_SET_RANGE writes one wheel's bound, the non-negative value that is exactly ARG0
(+0.0 for 0), and nothing else. -/
def Obligations.PidSetRangeWritesOneBound : Prop :=
  ∀ (s : State) (w : WheelId), ParamsLegal s.params → s.status.ready = true →
    s.arg0.toNat ≤ s.params.pwmCeil.toNat → ∃ t L,
      exec (.pidSetRange w) s = .next t ∧ t = { s with wheels := t.wheels } ∧
        (∀ w', t.wheel w' = if w' = w then { s.wheel w with pidLimit := L } else s.wheel w') ∧
        f32IsFinite L = true ∧ f32Sign L = false ∧ f32Units L = (s.arg0.toNat * 2 ^ 149 : Nat)

/-! Refusals (spec/60_exceptions.md). -/

/-- 60_exceptions.md R300, R301, R303, R306 and 43_diffdrive.md R247: a command that meets a refusal records it in ERR
and ECODE and changes nothing else; a command that meets none leaves both as they were. -/
def Obligations.RefusedCommandsChangeOnlyErrAndEcode : Prop :=
  ∀ (c : Command) (s : State),
    (∀ code, refusalOf c s = some code →
      exec c.toInstr s = .next { s with status := { s.status with err := true, ecode := ecodeOf code } }) ∧
    (refusalOf c s = none →
      ∃ t, exec c.toInstr s = .next t ∧ t.status.err = s.status.err ∧ t.status.ecode = s.status.ecode)

/-- 43_diffdrive.md R247: which commands are refused for the phase alone. -/
def Obligations.PhaseAdmission : Prop :=
  ∀ (c : Command) (s : State),
    (s.status.ready = false →
      (refusalOf c s = some .notReady ↔
        ¬(c = .nop ∨ c = .init ∨ c = .disableAll ∨ (∃ w, c = .wDisable w) ∨ c = .resetOdom ∨ c = .getOdom)) ∧
      (refusalOf c s = some .notReady →
        exec c.toInstr s = .next { s with status := { s.status with err := true, ecode := 0x02 } })) ∧
    (s.status.ready = true →
      refusalOf c s ≠ some .notReady ∧ (refusalOf c s = some .alreadyInit ↔ c = .init) ∧
        (c = .init → exec c.toInstr s = .next { s with status := { s.status with err := true, ecode := 0x03 } }))

/-! The units: accumulator, wheel, regulator (spec/40_accumulator.md, spec/41_pid.md, spec/42_wheel.md). -/

/-- 40_accumulator.md R143: after any pushes into an empty window the stored samples are the most recent ones, at most
`WIN_N`, and the caller's running sums are their sums modulo 2^32. -/
def Obligations.AccumulatorConservation : Prop :=
  ∀ (winN : Word) (x : Wheel) (l : List Sample), 1 ≤ winN.toNat → winN.toNat ≤ 65536 → WindowShape winN x →
    x.count = 0 →
    let r := pushAll winN l (x, 0, 0)
    storedSamples winN r.1 = l.drop (l.length - winN.toNat) ∧
      (storedSamples winN r.1).length = min l.length winN.toNat ∧
      r.2.1 = sumDeltas (storedSamples winN r.1) ∧ r.2.2 = ((storedSamples winN r.1).map Sample.t).sum

/-- 42_wheel.md R193, 70_reset_and_hazards.md R347: the tick delta is the counter's movement reduced modulo 2^W_ENC into
-2^(W_ENC-1) .. 2^(W_ENC-1) - 1. -/
def Obligations.TickDeltaIsTheReducedMovement : Prop :=
  ∀ (wEnc cnt prev : Word), 2 ≤ wEnc.toNat → wEnc.toNat ≤ 32 →
    let delta := (sextEnc wEnc (truncEnc wEnc (cnt - prev))).toInt
    delta < 2 ^ (wEnc.toNat - 1) ∧ -(2 ^ (wEnc.toNat - 1)) ≤ delta ∧
      ∃ k : Int, delta = (cnt.toNat : Int) - (prev.toNat : Int) - k * 2 ^ wEnc.toNat

/-- 42_wheel.md R192 to R196: what WheelUpdate measures, Enabled or not: count, delta, window, sums, distance, velocity
and the standstill bit; the flags, the target and the gains are kept. -/
def Obligations.WheelUpdateMeasures : Prop :=
  ∀ (p : Params) (x : Wheel) (dt : Half) (raw : Word),
    let u := wheelUpdate p x dt raw
    let cnt := if x.encPol then truncEnc p.wEnc (0 - raw) else raw
    let delta := sextEnc p.wEnc (truncEnc p.wEnc (cnt - x.encPrev))
    let push := accPush p.winN x ⟨delta, dt.setWidth 32⟩
    (u.encPrev = cnt ∧ u.buf = push.1.buf ∧ u.count = push.1.count ∧ u.head = push.1.head) ∧
      (u.tickSum = x.tickSum + delta - push.2.d ∧ u.timeSum = x.timeSum + dt.setWidth 32 - push.2.t ∧
        u.distTicks = x.distTicks + delta) ∧
      u.velTps = f32Div (i2f u.tickSum) (f32Div (u2f u.timeSum) 0x447A0000) ∧
      (u.standstill = true ↔ f32Eq u.velTps 0 = true ∧ f32Eq x.targetTps 0 = true) ∧
      (u.en = x.en ∧ u.motPol = x.motPol ∧ u.encPol = x.encPol ∧ u.targetTps = x.targetTps ∧ u.pidKp = x.pidKp ∧
        u.pidKi = x.pidKi ∧ u.pidKd = x.pidKd ∧ u.pidLimit = x.pidLimit)

/-- 42_wheel.md R197 to R199, 41_pid.md R161 to R165: the three branches of WheelUpdate: Disabled keeps power and
regulator, Enabled at Standstill zeroes both, Enabled and Regulating runs PidUpdate on the error measured − target. -/
def Obligations.WheelUpdateRegulates : Prop :=
  ∀ (p : Params) (x : Wheel) (dt : Half) (raw : Word),
    let u := wheelUpdate p x dt raw
    let e := f32Sub u.velTps x.targetTps
    let dtf := u2f (dt.setWidth 32)
    let integ := f32Add x.pidInteg (f32Mul e dtf)
    let d := f32Div (f32Mul x.pidKd (f32Sub e x.pidPrev)) dtf
    let sum := f32Add (f32Add (f32Mul x.pidKp e) (f32Mul x.pidKi integ)) d
    (x.en = false → u.power = x.power ∧ u.pidInteg = x.pidInteg ∧ u.pidPrev = x.pidPrev) ∧
      (x.en = true → u.standstill = true → u.power = 0 ∧ u.pidInteg = 0 ∧ u.pidPrev = 0) ∧
      (x.en = true → u.standstill = false →
        u.power = f2iTrunc (clampOutput sum x.pidLimit) ∧ u.pidInteg = integ ∧ u.pidPrev = e ∧
          (wheelUpdateNumErr p x dt raw = true ↔ f32IsNaN sum = true)) ∧
      (wheelUpdateNumErr p x dt raw = true → x.en = true ∧ u.standstill = false)

/-- 41_pid.md R166: saturation of the output sum, and a NaN sum gives +0.0. -/
def Obligations.ClampSaturates : Prop :=
  ∀ sum L : Word, f32IsNaN L = false → f32Lt L 0 = false →
    let out := clampOutput sum L
    f32IsNaN out = false ∧ f32Gt out L = false ∧ f32Lt out (f32Negate L) = false ∧
      (f32IsNaN sum = true → out = 0) ∧ (f32IsNaN sum = false → f32Gt sum L = true → out = L) ∧
      (f32IsNaN sum = false → f32Lt sum (f32Negate L) = true → out = f32Negate L) ∧
      (f32IsNaN sum = false → f32Gt sum L = false → f32Lt sum (f32Negate L) = false → out = sum)

/-- 41_pid.md R174: in every state with the power invariant, whatever the error and dt, PidUpdate's result is no NaN,
lies within the bound, and the bound is at most `PWM_CEIL`. -/
def Obligations.PidOutputStaysInRange : Prop :=
  ∀ (s : State) (w : WheelId) (e : Word) (dt : Half), PowerInv s →
    let x := s.wheel w
    f32IsNaN (pidOutput x e dt) = false ∧ f32Gt (pidOutput x e dt) x.pidLimit = false ∧
      f32Lt (pidOutput x e dt) (f32Negate x.pidLimit) = false ∧ f32Gt x.pidLimit (u2f s.params.pwmCeil) = false ∧
      (f2iTrunc (pidOutput x e dt)).toInt.natAbs ≤ s.params.pwmCeil.toNat

/-- 41_pid.md R166, 60_exceptions.md R302: a tick whose output sum is a NaN gives that wheel power 0 and sets NUMERR,
and the tick goes on. -/
def Obligations.NaNSumGivesZeroPower : Prop :=
  ∀ (s : State) (dt : Half) (w : WheelId), s.status.ready = true → dt ≠ 0 →
    wheelUpdateNumErr s.params
      { s.wheel w with
        targetTps :=
          if s.cfg.cmdTimeout < s.nowMs + dt.setWidth 32 - s.lastCmdMs then 0 else (s.wheel w).targetTps } dt
      (sampleEncCnt s w) = true →
    ∃ t, exec (.tick dt) s = .next t ∧ t.status.numErr = true ∧ (t.wheel w).power = 0 ∧ t.status.err = s.status.err ∧
      t.status.ecode = s.status.ecode

/-- 42_wheel.md R195: with a window time a reachable state can have, the velocity estimate is finite, and it is +0.0
exactly when TICK_SUM is 0. -/
def Obligations.VelocityEstimateIsFinite : Prop :=
  ∀ tickSum timeSum : Word, 1 ≤ timeSum.toNat → timeSum.toNat ≤ 65535 * 65536 →
    let v := velocityEstimate tickSum timeSum
    f32IsFinite v = true ∧ (f32Eq v 0 = true ↔ tickSum = 0) ∧ (tickSum = 0 → v = 0)

/-- 42_wheel.md R213: a tick of an Enabled wheel whose TICK_SUM is 0 after the push and whose target compares equal to
0.0 leaves power 0, integral +0.0 and previous error +0.0. -/
def Obligations.StandstillTickHoldsTheWheel : Prop :=
  ∀ (s : State) (dt : Half) (w : WheelId), WindowInv s → s.status.ready = true → dt ≠ 0 → (s.wheel w).en = true →
    ∃ t, exec (.tick dt) s = .next t ∧
      ((t.wheel w).tickSum = 0 → f32Eq (t.wheel w).targetTps 0 = true →
        (t.wheel w).standstill = true ∧ (t.wheel w).power = 0 ∧ (t.wheel w).pidInteg = 0 ∧ (t.wheel w).pidPrev = 0)

/-! Arithmetic (spec/00_scope.md R9 to R11). -/

/-- 00_scope.md R9: a sum or difference of finite values is the exact one rounded to nearest even. An exact zero
sum is +0.0 unless both summands are negative, and an exact zero difference is +0.0 unless it is -0.0 - +0.0 (the zeros
as IEEE 754 has them, log 12). -/
def Obligations.SumsRoundToNearestEven : Prop :=
  ∀ a b : Word, f32IsFinite a = true → f32IsFinite b = true →
    RoundsToNearestEven (f32Add a b) (f32Units a + f32Units b) 1 ∧
      RoundsToNearestEven (f32Sub a b) (f32Units a - f32Units b) 1 ∧
      (f32Units a + f32Units b = 0 → f32Add a b = if f32Sign a && f32Sign b then 0x80000000 else 0x00000000) ∧
      (f32Units a - f32Units b = 0 →
        f32Sub a b = if a = 0x80000000 ∧ b = 0x00000000 then 0x80000000 else 0x00000000)

/-- 00_scope.md R9: a product of finite values, and a quotient of finite values by one that is not zero, is the exact one
rounded to nearest even, with the exclusive or of the signs as its sign (the sign as IEEE 754 has it, log 12). -/
def Obligations.ProductsAndQuotientsRoundToNearestEven : Prop :=
  ∀ a b : Word, f32IsFinite a = true → f32IsFinite b = true →
    (RoundsToNearestEven (f32Mul a b) (f32Units a * f32Units b) (2 ^ 149) ∧
      f32Sign (f32Mul a b) = (f32Sign a != f32Sign b)) ∧
    (f32Units b ≠ 0 →
      RoundsToNearestEven (f32Div a b) (f32Units a * 2 ^ 149 * (f32Units b).sign) (f32Units b).natAbs ∧
        f32Sign (f32Div a b) = (f32Sign a != f32Sign b))

/-- 00_scope.md R9, R11: operations with a NaN or an infinity on either side, division by zero, and the invalid operations,
as IEEE 754 has them (log 12). A comparison with a NaN is false; any other one orders the values, an infinity beyond
every finite value, so that the two zeros compare equal. -/
def Obligations.SpecialOperands : Prop :=
  ∀ a b : Word,
    (f32IsNaN a = true ∨ f32IsNaN b = true →
      f32IsNaN (f32Add a b) = true ∧ f32IsNaN (f32Sub a b) = true ∧ f32IsNaN (f32Mul a b) = true ∧
        f32IsNaN (f32Div a b) = true ∧ f32Eq a b = false ∧ f32Lt a b = false ∧ f32Gt a b = false) ∧
    (f32IsInf a = true → f32IsFinite b = true →
      (f32Add a b = a ∧ f32Add b a = a ∧ f32Sub a b = a ∧ f32Sub b a = f32Negate a) ∧
        (f32Div a b = f32Inf (f32Sign a != f32Sign b) ∧ f32Div b a = f32Zero (f32Sign a != f32Sign b)) ∧
        (if f32Units b = 0 then f32IsNaN (f32Mul a b) = true ∧ f32IsNaN (f32Mul b a) = true
          else f32Mul a b = f32Inf (f32Sign a != f32Sign b) ∧ f32Mul b a = f32Inf (f32Sign a != f32Sign b))) ∧
    (f32IsInf a = true → f32IsInf b = true →
      f32IsNaN (f32Div a b) = true ∧ f32Mul a b = f32Inf (f32Sign a != f32Sign b) ∧
        (if f32Sign a = f32Sign b then f32Add a b = a ∧ f32IsNaN (f32Sub a b) = true
          else f32IsNaN (f32Add a b) = true ∧ f32Sub a b = a)) ∧
    (f32IsFinite a = true → f32IsFinite b = true → f32Units b = 0 →
      if f32Units a = 0 then f32IsNaN (f32Div a b) = true else f32Div a b = f32Inf (f32Sign a != f32Sign b)) ∧
    (f32IsNaN a = false → f32IsNaN b = false →
      (f32Lt a b = true ↔ f32Units a < f32Units b) ∧ (f32Gt a b = true ↔ f32Units b < f32Units a) ∧
        (f32Eq a b = true ↔ f32Units a = f32Units b)) ∧
    (f32IsInf a = true → f32IsFinite b = true →
      if f32Sign a = true then f32Units a < f32Units b else f32Units b < f32Units a) ∧
    f32Eq 0x00000000 0x80000000 = true

/-- 00_scope.md R10: `u2f` and `i2f` round to nearest even and are exact up to 2^24, and `f2i_trunc` rounds toward zero on
its stated domain. -/
def Obligations.ConversionsAreExact : Prop :=
  ∀ v : Word,
    RoundsToNearestEven (u2f v) (v.toNat * 2 ^ 149) 1 ∧ RoundsToNearestEven (i2f v) (v.toInt * 2 ^ 149) 1 ∧
      (v.toNat ≤ 2 ^ 24 → f32Units (u2f v) = v.toNat * 2 ^ 149) ∧
      (v.toInt.natAbs ≤ 2 ^ 24 → f32Units (i2f v) = v.toInt * 2 ^ 149) ∧
      (f32IsFinite v = true → -(2 ^ 31) ≤ (f32Units v).tdiv (2 ^ 149) → (f32Units v).tdiv (2 ^ 149) < 2 ^ 31 →
        (f2iTrunc v).toInt = (f32Units v).tdiv (2 ^ 149))

/-! Invariants every step keeps (spec/10_state.md R60). -/

/-- 10_state.md R46, R58, R60, 40_accumulator.md R141, 42_wheel.md R194: every step keeps every wheel's window well
formed and TICK_SUM and TIME_SUM the sums of the stored samples, TIME_SUM exactly; and it keeps ENC_PREV and the encoder
counters within W_ENC bits. -/
def Obligations.StepKeepsTheWindowSums : Prop :=
  ∀ s t : State, step s = .next t → (WindowInv s → WindowInv t) ∧ (EncoderInv s → EncoderInv t)

/-- 10_state.md R50, R52, R60: every step keeps the power of a Disabled wheel 0, every power within `PWM_CEIL`, and every
PID_LIMIT an integer value in 0 .. `PWM_CEIL`. -/
def Obligations.StepKeepsThePowerBound : Prop :=
  ∀ s t : State, PowerInv s → step s = .next t → PowerInv t

/-- 10_state.md R37, R41, 60_exceptions.md R301, 43_diffdrive.md R231, 44_bus.md R286 to R289: every step keeps ECODE 0
while ERR is 0 and one of 0x01 .. 0x07 while it is 1, every configuration register at a legal or its reset value, and the
geometry and resolution above 0 once READY. -/
def Obligations.StepKeepsErrorCodeAndConfigurationLegal : Prop :=
  ∀ s t : State, step s = .next t →
    (ErrorCodeCoherent s.status → ErrorCodeCoherent t.status) ∧ (ConfigInv s → ConfigInv t)

/-- 42_wheel.md R190, 43_diffdrive.md R247, 70_reset_and_hazards.md R342: until INIT succeeds no step moves a wheel, the
odometry or the time registers from their reset values. -/
def Obligations.StepKeepsWheelsAtResetUntilInit : Prop :=
  ∀ s t : State, BeforeInitInv s → step s = .next t → BeforeInitInv t

/-- The invariants hold right after reset (70_reset_and_hazards.md R341). The encoder counters' value there is the
model's choice (log 8). -/
def Obligations.ResetMeetsTheInvariants : Prop :=
  WindowInv State.reset ∧ PowerInv State.reset ∧ EncoderInv State.reset ∧ ErrorCodeCoherent State.reset.status ∧
    ConfigInv State.reset ∧ BeforeInitInv State.reset

/-! Which operations write what (whole-machine rules). -/

/-- 10_state.md R35: READY becomes 1 by a successful INIT and by nothing else, and only the reset clears it. -/
def Obligations.ReadyIsSetByInitOnly : Prop :=
  ∀ s t : State, step s = .next t →
    (s.status.ready = false →
      (t.status.ready = true ↔ nextCommand s = some .init ∧ refusalOf .init s = none)) ∧
    (s.status.ready = true → (t.status.ready = false ↔ s.inbox.head? = some .rst))

/-- 10_state.md R31, R32, R40, R55: the parameters never change; RES changes only by the three read-outs, ARG only by a
host write to it, NOW_MS only by an accepted TICK, which adds its dt, LAST_CMD_MS only by an accepted SET_SPEED; the
reset aside. -/
def Obligations.RegistersChangeOnlyByTheirRules : Prop :=
  ∀ s t : State, step s = .next t →
    t.params = s.params ∧
      (s.inbox.head? ≠ some .rst →
        (t.res ≠ s.res → ∃ c, nextCommand s = some c ∧ writesResults c = true) ∧
        (t.arg0 ≠ s.arg0 → ∃ v, s.inbox.head? = some (.busRequest 0xA018 v) ∧ t.arg0 = v) ∧
        (t.arg1 ≠ s.arg1 → ∃ v, s.inbox.head? = some (.busRequest 0xA01C v) ∧ t.arg1 = v) ∧
        (t.arg2 ≠ s.arg2 → ∃ v, s.inbox.head? = some (.busRequest 0xA020 v) ∧ t.arg2 = v) ∧
        (t.nowMs ≠ s.nowMs → ∃ dt, nextCommand s = some (.tick dt) ∧ refusalOf (.tick dt) s = none ∧
          t.nowMs = s.nowMs + dt.setWidth 32) ∧
        (t.lastCmdMs ≠ s.lastCmdMs → nextCommand s = some .setSpeed ∧ refusalOf .setSpeed s = none ∧
          t.lastCmdMs = s.nowMs))

/-- 10_state.md R60, 41_pid.md R170: a regulator's memory changes only on an accepted TICK of an Enabled wheel, where it
is zeroed at Standstill, or by a reset of that regulator: PID_RESET, or the enabling of a Disabled wheel; the reset
aside. -/
def Obligations.RegulatorMemoryChangesOnlyWhileRegulating : Prop :=
  ∀ (s t : State) (w : WheelId), step s = .next t → s.inbox.head? ≠ some .rst →
    ((t.wheel w).pidInteg ≠ (s.wheel w).pidInteg ∨ (t.wheel w).pidPrev ≠ (s.wheel w).pidPrev) →
    ∃ c, nextCommand s = some c ∧ refusalOf c s = none ∧
      ((∃ dt, c = .tick dt ∧ (s.wheel w).en = true ∧ ((t.wheel w).standstill = true →
          (t.wheel w).pidInteg = 0 ∧ (t.wheel w).pidPrev = 0)) ∨
        ((t.wheel w).pidInteg = 0 ∧ (t.wheel w).pidPrev = 0 ∧
          (c = .pidReset w ∨ ((c = .wEnable w ∨ c = .enableAll) ∧ (s.wheel w).en = false))))

/-- 10_state.md R44, 43_diffdrive.md R238: no wheel reads another wheel's state: what a command does to a wheel depends on
that wheel and its channel and on the shared registers only. That the two results agree in the patterns of their NaNs
too is the model's choice: equal operations on equal operands give equal NaN patterns there (log 3). -/
def Obligations.WheelsDoNotReadEachOther : Prop :=
  ∀ (c : Command) (w : WheelId) (s s' t t' : State), s.params = s'.params → s.cfg = s'.cfg →
    s.status.ready = s'.status.ready → s.arg0 = s'.arg0 → s.arg1 = s'.arg1 → s.arg2 = s'.arg2 → s.nowMs = s'.nowMs →
    s.lastCmdMs = s'.lastCmdMs → s.wheel w = s'.wheel w → s.channel w = s'.channel w →
    exec c.toInstr s = .next t → exec c.toInstr s' = .next t' → t.wheel w = t'.wheel w

/-! The parameter functions (spec/00_scope.md R13). -/

/-- 00_scope.md R13: the values of CosF and SinF at the two zeros, the only ones the spec states. -/
def Obligations.CosineAndSineAtTheZeros : Prop :=
  cosF 0x00000000 = 0x3F800000 ∧ cosF 0x80000000 = 0x3F800000 ∧ sinF 0x00000000 = 0x00000000 ∧
    sinF 0x80000000 = 0x80000000
end

