-- ==== Sys2Proof/Laws/Float.lean ====
section
/-! SUPPORT. First facts about the arithmetic: what a packed value is, and that a NaN result is a NaN whatever its pattern. -/

namespace Sys2Proof.Machine

/-- A packed value has the sign it was given and the low bits it was given. -/
theorem f32Pack_toNat (neg : Bool) (low : Nat) (h : low < 2 ^ 31) :
    (f32Pack neg low).toNat = (if neg then 2 ^ 31 else 0) + low := by
  cases neg <;> (simp [f32Pack]; omega)

theorem f32Sign_pack (neg : Bool) (low : Nat) (h : low < 2 ^ 31) : f32Sign (f32Pack neg low) = neg := by
  simp only [f32Sign, BitVec.msb_eq_decide, f32Pack_toNat neg low h]
  cases neg <;> simp <;> omega

theorem f32Exp_pack (neg : Bool) (low : Nat) (h : low < 2 ^ 31) : f32Exp (f32Pack neg low) = low / 2 ^ 23 := by
  simp only [f32Exp, f32Pack_toNat neg low h]
  cases neg <;> simp <;> omega

theorem f32Frac_pack (neg : Bool) (low : Nat) (h : low < 2 ^ 31) : f32Frac (f32Pack neg low) = low % 2 ^ 23 := by
  simp only [f32Frac, f32Pack_toNat neg low h]
  cases neg <;> simp <;> omega

theorem f32Frac_lt (x : Word) : f32Frac x < 2 ^ 23 := Nat.mod_lt _ (by decide)

theorem f32Exp_lt (x : Word) : f32Exp x < 2 ^ 8 := Nat.mod_lt _ (by decide)

/-- Every value is a NaN, an infinity or finite, and only one of them. -/
theorem f32_class (x : Word) :
    (f32IsNaN x = true ∧ f32IsInf x = false ∧ f32IsFinite x = false) ∨
      (f32IsNaN x = false ∧ f32IsInf x = true ∧ f32IsFinite x = false) ∨
      (f32IsNaN x = false ∧ f32IsInf x = false ∧ f32IsFinite x = true) := by
  by_cases he : f32Exp x = 255 <;> by_cases hf : f32Frac x = 0 <;> simp [f32IsNaN, f32IsInf, f32IsFinite, he, hf]

/-- The low 31 bits of a rounded value. -/
def f32RoundLow (num den : Nat) : Nat :=
  min (((num / den).log2 - 23) * 2 ^ 23 + num / (den * 2 ^ ((num / den).log2 - 23)) +
    (if den * 2 ^ ((num / den).log2 - 23) < 2 * (num % (den * 2 ^ ((num / den).log2 - 23))) ∨
        (2 * (num % (den * 2 ^ ((num / den).log2 - 23))) = den * 2 ^ ((num / den).log2 - 23) ∧
          num / (den * 2 ^ ((num / den).log2 - 23)) % 2 = 1) then 1 else 0)) 0x7F800000

theorem f32Round_eq (neg : Bool) (num den : Nat) : f32Round neg num den = f32Pack neg (f32RoundLow num den) := rfl

theorem f32RoundLow_lt (num den : Nat) : f32RoundLow num den < 2 ^ 31 :=
  Nat.lt_of_le_of_lt (Nat.min_le_right _ _) (by decide)

/-- A rounded value has the sign it was given and is no NaN. -/
theorem f32Sign_round (neg : Bool) (num den : Nat) : f32Sign (f32Round neg num den) = neg := by
  rw [f32Round_eq, f32Sign_pack _ _ (f32RoundLow_lt num den)]

theorem f32IsNaN_round (neg : Bool) (num den : Nat) : f32IsNaN (f32Round neg num den) = false := by
  have h : f32RoundLow num den ≤ 0x7F800000 := Nat.min_le_right _ _
  rw [f32Round_eq, f32IsNaN, f32Exp_pack _ _ (f32RoundLow_lt num den), f32Frac_pack _ _ (f32RoundLow_lt num den)]
  rcases Nat.lt_or_ge (f32RoundLow num den) 0x7F800000 with h' | h'
  · have : ¬f32RoundLow num den / 2 ^ 23 = 255 := by omega
    simp only [beq_eq_false_iff_ne.mpr this, Bool.false_and]
  · have : f32RoundLow num den = 0x7F800000 := by omega
    simp [this]

/-- A NaN result is a NaN, whichever pattern the hardware gives it (log 3). -/
theorem f32IsNaN_nan (op : Config.ArithOp) (a b : Word) : f32IsNaN (f32NaN op a b) = true := by
  unfold f32NaN
  split
  · decide
  · split
    · assumption
    · decide

end Sys2Proof.Machine
end

