-- ==== Sys2Proof/Laws/State.lean ====
section
/-! SUPPORT. One lemma for each field under each named update of the state, and the reads of a wheel and a channel after
an update. -/

namespace Sys2Proof.Machine

/-! Four copies of one thing. -/

@[simp] theorem PerWheel.get_all {α : Type} (a : α) (w : WheelId) : (PerWheel.all a).get w = a := by cases w <;> rfl

@[simp] theorem PerWheel.get_map {α β : Type} (f : α → β) (p : PerWheel α) (w : WheelId) :
    (p.map f).get w = f (p.get w) := by cases w <;> rfl

@[simp] theorem PerWheel.get_set {α : Type} (p : PerWheel α) (w w' : WheelId) (a : α) :
    (p.set w a).get w' = if w' = w then a else p.get w' := by cases w <;> cases w' <;> rfl

theorem PerWheel.eq_of_get {α : Type} {p q : PerWheel α} (h : ∀ w, p.get w = q.get w) : p = q := by
  cases p; cases q; simp only [PerWheel.mk.injEq]; exact ⟨h .fl, h .fr, h .rl, h .rr⟩

/-- Two states with the same fields are the same. -/
theorem State.eq_of_fields {s t : State} (h1 : s.params = t.params) (h2 : s.status = t.status) (h3 : s.arg0 = t.arg0)
    (h4 : s.arg1 = t.arg1) (h5 : s.arg2 = t.arg2) (h6 : s.res = t.res) (h7 : s.cfg = t.cfg)
    (h8 : s.wheels = t.wheels) (h9 : s.odom = t.odom) (h10 : s.nowMs = t.nowMs) (h11 : s.lastCmdMs = t.lastCmdMs)
    (h12 : s.channels = t.channels) (h13 : s.busRData = t.busRData) (h14 : s.inbox = t.inbox) : s = t := by
  cases s; cases t; simp_all

/-! Fields under updates. -/

@[simp] theorem State.setWheel_params (s : State) (w : WheelId) (x : Wheel) :
    (s.setWheel w x).params = s.params := rfl
@[simp] theorem State.setWheel_status (s : State) (w : WheelId) (x : Wheel) :
    (s.setWheel w x).status = s.status := rfl
@[simp] theorem State.setWheel_arg0 (s : State) (w : WheelId) (x : Wheel) : (s.setWheel w x).arg0 = s.arg0 := rfl
@[simp] theorem State.setWheel_arg1 (s : State) (w : WheelId) (x : Wheel) : (s.setWheel w x).arg1 = s.arg1 := rfl
@[simp] theorem State.setWheel_arg2 (s : State) (w : WheelId) (x : Wheel) : (s.setWheel w x).arg2 = s.arg2 := rfl
@[simp] theorem State.setWheel_res (s : State) (w : WheelId) (x : Wheel) : (s.setWheel w x).res = s.res := rfl
@[simp] theorem State.setWheel_cfg (s : State) (w : WheelId) (x : Wheel) : (s.setWheel w x).cfg = s.cfg := rfl
@[simp] theorem State.setWheel_wheels (s : State) (w : WheelId) (x : Wheel) :
    (s.setWheel w x).wheels = s.wheels.set w x := rfl
@[simp] theorem State.setWheel_odom (s : State) (w : WheelId) (x : Wheel) : (s.setWheel w x).odom = s.odom := rfl
@[simp] theorem State.setWheel_nowMs (s : State) (w : WheelId) (x : Wheel) : (s.setWheel w x).nowMs = s.nowMs := rfl
@[simp] theorem State.setWheel_lastCmdMs (s : State) (w : WheelId) (x : Wheel) :
    (s.setWheel w x).lastCmdMs = s.lastCmdMs := rfl
@[simp] theorem State.setWheel_channels (s : State) (w : WheelId) (x : Wheel) :
    (s.setWheel w x).channels = s.channels := rfl
@[simp] theorem State.setWheel_busRData (s : State) (w : WheelId) (x : Wheel) :
    (s.setWheel w x).busRData = s.busRData := rfl
@[simp] theorem State.setWheel_inbox (s : State) (w : WheelId) (x : Wheel) : (s.setWheel w x).inbox = s.inbox := rfl

@[simp] theorem State.setChannel_params (s : State) (w : WheelId) (c : Channel) :
    (s.setChannel w c).params = s.params := rfl
@[simp] theorem State.setChannel_status (s : State) (w : WheelId) (c : Channel) :
    (s.setChannel w c).status = s.status := rfl
@[simp] theorem State.setChannel_arg0 (s : State) (w : WheelId) (c : Channel) :
    (s.setChannel w c).arg0 = s.arg0 := rfl
@[simp] theorem State.setChannel_arg1 (s : State) (w : WheelId) (c : Channel) :
    (s.setChannel w c).arg1 = s.arg1 := rfl
@[simp] theorem State.setChannel_arg2 (s : State) (w : WheelId) (c : Channel) :
    (s.setChannel w c).arg2 = s.arg2 := rfl
@[simp] theorem State.setChannel_res (s : State) (w : WheelId) (c : Channel) : (s.setChannel w c).res = s.res := rfl
@[simp] theorem State.setChannel_cfg (s : State) (w : WheelId) (c : Channel) : (s.setChannel w c).cfg = s.cfg := rfl
@[simp] theorem State.setChannel_wheels (s : State) (w : WheelId) (c : Channel) :
    (s.setChannel w c).wheels = s.wheels := rfl
@[simp] theorem State.setChannel_odom (s : State) (w : WheelId) (c : Channel) :
    (s.setChannel w c).odom = s.odom := rfl
@[simp] theorem State.setChannel_nowMs (s : State) (w : WheelId) (c : Channel) :
    (s.setChannel w c).nowMs = s.nowMs := rfl
@[simp] theorem State.setChannel_lastCmdMs (s : State) (w : WheelId) (c : Channel) :
    (s.setChannel w c).lastCmdMs = s.lastCmdMs := rfl
@[simp] theorem State.setChannel_channels (s : State) (w : WheelId) (c : Channel) :
    (s.setChannel w c).channels = s.channels.set w c := rfl
@[simp] theorem State.setChannel_busRData (s : State) (w : WheelId) (c : Channel) :
    (s.setChannel w c).busRData = s.busRData := rfl
@[simp] theorem State.setChannel_inbox (s : State) (w : WheelId) (c : Channel) :
    (s.setChannel w c).inbox = s.inbox := rfl

@[simp] theorem State.setStatus_params (s : State) (x : Status) : (s.setStatus x).params = s.params := rfl
@[simp] theorem State.setStatus_status (s : State) (x : Status) : (s.setStatus x).status = x := rfl
@[simp] theorem State.setStatus_arg0 (s : State) (x : Status) : (s.setStatus x).arg0 = s.arg0 := rfl
@[simp] theorem State.setStatus_arg1 (s : State) (x : Status) : (s.setStatus x).arg1 = s.arg1 := rfl
@[simp] theorem State.setStatus_arg2 (s : State) (x : Status) : (s.setStatus x).arg2 = s.arg2 := rfl
@[simp] theorem State.setStatus_res (s : State) (x : Status) : (s.setStatus x).res = s.res := rfl
@[simp] theorem State.setStatus_cfg (s : State) (x : Status) : (s.setStatus x).cfg = s.cfg := rfl
@[simp] theorem State.setStatus_wheels (s : State) (x : Status) : (s.setStatus x).wheels = s.wheels := rfl
@[simp] theorem State.setStatus_odom (s : State) (x : Status) : (s.setStatus x).odom = s.odom := rfl
@[simp] theorem State.setStatus_nowMs (s : State) (x : Status) : (s.setStatus x).nowMs = s.nowMs := rfl
@[simp] theorem State.setStatus_lastCmdMs (s : State) (x : Status) : (s.setStatus x).lastCmdMs = s.lastCmdMs := rfl
@[simp] theorem State.setStatus_channels (s : State) (x : Status) : (s.setStatus x).channels = s.channels := rfl
@[simp] theorem State.setStatus_busRData (s : State) (x : Status) : (s.setStatus x).busRData = s.busRData := rfl
@[simp] theorem State.setStatus_inbox (s : State) (x : Status) : (s.setStatus x).inbox = s.inbox := rfl

@[simp] theorem State.setCfg_params (s : State) (x : Cfg) : (s.setCfg x).params = s.params := rfl
@[simp] theorem State.setCfg_status (s : State) (x : Cfg) : (s.setCfg x).status = s.status := rfl
@[simp] theorem State.setCfg_arg0 (s : State) (x : Cfg) : (s.setCfg x).arg0 = s.arg0 := rfl
@[simp] theorem State.setCfg_arg1 (s : State) (x : Cfg) : (s.setCfg x).arg1 = s.arg1 := rfl
@[simp] theorem State.setCfg_arg2 (s : State) (x : Cfg) : (s.setCfg x).arg2 = s.arg2 := rfl
@[simp] theorem State.setCfg_res (s : State) (x : Cfg) : (s.setCfg x).res = s.res := rfl
@[simp] theorem State.setCfg_cfg (s : State) (x : Cfg) : (s.setCfg x).cfg = x := rfl
@[simp] theorem State.setCfg_wheels (s : State) (x : Cfg) : (s.setCfg x).wheels = s.wheels := rfl
@[simp] theorem State.setCfg_odom (s : State) (x : Cfg) : (s.setCfg x).odom = s.odom := rfl
@[simp] theorem State.setCfg_nowMs (s : State) (x : Cfg) : (s.setCfg x).nowMs = s.nowMs := rfl
@[simp] theorem State.setCfg_lastCmdMs (s : State) (x : Cfg) : (s.setCfg x).lastCmdMs = s.lastCmdMs := rfl
@[simp] theorem State.setCfg_channels (s : State) (x : Cfg) : (s.setCfg x).channels = s.channels := rfl
@[simp] theorem State.setCfg_busRData (s : State) (x : Cfg) : (s.setCfg x).busRData = s.busRData := rfl
@[simp] theorem State.setCfg_inbox (s : State) (x : Cfg) : (s.setCfg x).inbox = s.inbox := rfl

@[simp] theorem State.setOdom_params (s : State) (x : Odom) : (s.setOdom x).params = s.params := rfl
@[simp] theorem State.setOdom_status (s : State) (x : Odom) : (s.setOdom x).status = s.status := rfl
@[simp] theorem State.setOdom_arg0 (s : State) (x : Odom) : (s.setOdom x).arg0 = s.arg0 := rfl
@[simp] theorem State.setOdom_arg1 (s : State) (x : Odom) : (s.setOdom x).arg1 = s.arg1 := rfl
@[simp] theorem State.setOdom_arg2 (s : State) (x : Odom) : (s.setOdom x).arg2 = s.arg2 := rfl
@[simp] theorem State.setOdom_res (s : State) (x : Odom) : (s.setOdom x).res = s.res := rfl
@[simp] theorem State.setOdom_cfg (s : State) (x : Odom) : (s.setOdom x).cfg = s.cfg := rfl
@[simp] theorem State.setOdom_wheels (s : State) (x : Odom) : (s.setOdom x).wheels = s.wheels := rfl
@[simp] theorem State.setOdom_odom (s : State) (x : Odom) : (s.setOdom x).odom = x := rfl
@[simp] theorem State.setOdom_nowMs (s : State) (x : Odom) : (s.setOdom x).nowMs = s.nowMs := rfl
@[simp] theorem State.setOdom_lastCmdMs (s : State) (x : Odom) : (s.setOdom x).lastCmdMs = s.lastCmdMs := rfl
@[simp] theorem State.setOdom_channels (s : State) (x : Odom) : (s.setOdom x).channels = s.channels := rfl
@[simp] theorem State.setOdom_busRData (s : State) (x : Odom) : (s.setOdom x).busRData = s.busRData := rfl
@[simp] theorem State.setOdom_inbox (s : State) (x : Odom) : (s.setOdom x).inbox = s.inbox := rfl

@[simp] theorem State.setRes_params (s : State) (x : Vector Word 20) : (s.setRes x).params = s.params := rfl
@[simp] theorem State.setRes_status (s : State) (x : Vector Word 20) : (s.setRes x).status = s.status := rfl
@[simp] theorem State.setRes_arg0 (s : State) (x : Vector Word 20) : (s.setRes x).arg0 = s.arg0 := rfl
@[simp] theorem State.setRes_arg1 (s : State) (x : Vector Word 20) : (s.setRes x).arg1 = s.arg1 := rfl
@[simp] theorem State.setRes_arg2 (s : State) (x : Vector Word 20) : (s.setRes x).arg2 = s.arg2 := rfl
@[simp] theorem State.setRes_res (s : State) (x : Vector Word 20) : (s.setRes x).res = x := rfl
@[simp] theorem State.setRes_cfg (s : State) (x : Vector Word 20) : (s.setRes x).cfg = s.cfg := rfl
@[simp] theorem State.setRes_wheels (s : State) (x : Vector Word 20) : (s.setRes x).wheels = s.wheels := rfl
@[simp] theorem State.setRes_odom (s : State) (x : Vector Word 20) : (s.setRes x).odom = s.odom := rfl
@[simp] theorem State.setRes_nowMs (s : State) (x : Vector Word 20) : (s.setRes x).nowMs = s.nowMs := rfl
@[simp] theorem State.setRes_lastCmdMs (s : State) (x : Vector Word 20) : (s.setRes x).lastCmdMs = s.lastCmdMs := rfl
@[simp] theorem State.setRes_channels (s : State) (x : Vector Word 20) : (s.setRes x).channels = s.channels := rfl
@[simp] theorem State.setRes_busRData (s : State) (x : Vector Word 20) : (s.setRes x).busRData = s.busRData := rfl
@[simp] theorem State.setRes_inbox (s : State) (x : Vector Word 20) : (s.setRes x).inbox = s.inbox := rfl

@[simp] theorem State.setBusRData_params (s : State) (v : Word) : (s.setBusRData v).params = s.params := rfl
@[simp] theorem State.setBusRData_status (s : State) (v : Word) : (s.setBusRData v).status = s.status := rfl
@[simp] theorem State.setBusRData_arg0 (s : State) (v : Word) : (s.setBusRData v).arg0 = s.arg0 := rfl
@[simp] theorem State.setBusRData_arg1 (s : State) (v : Word) : (s.setBusRData v).arg1 = s.arg1 := rfl
@[simp] theorem State.setBusRData_arg2 (s : State) (v : Word) : (s.setBusRData v).arg2 = s.arg2 := rfl
@[simp] theorem State.setBusRData_res (s : State) (v : Word) : (s.setBusRData v).res = s.res := rfl
@[simp] theorem State.setBusRData_cfg (s : State) (v : Word) : (s.setBusRData v).cfg = s.cfg := rfl
@[simp] theorem State.setBusRData_wheels (s : State) (v : Word) : (s.setBusRData v).wheels = s.wheels := rfl
@[simp] theorem State.setBusRData_odom (s : State) (v : Word) : (s.setBusRData v).odom = s.odom := rfl
@[simp] theorem State.setBusRData_nowMs (s : State) (v : Word) : (s.setBusRData v).nowMs = s.nowMs := rfl
@[simp] theorem State.setBusRData_lastCmdMs (s : State) (v : Word) : (s.setBusRData v).lastCmdMs = s.lastCmdMs := rfl
@[simp] theorem State.setBusRData_channels (s : State) (v : Word) : (s.setBusRData v).channels = s.channels := rfl
@[simp] theorem State.setBusRData_busRData (s : State) (v : Word) : (s.setBusRData v).busRData = v := rfl
@[simp] theorem State.setBusRData_inbox (s : State) (v : Word) : (s.setBusRData v).inbox = s.inbox := rfl

@[simp] theorem State.setInbox_params (s : State) (ms : List AgentMove) : (s.setInbox ms).params = s.params := rfl
@[simp] theorem State.setInbox_status (s : State) (ms : List AgentMove) : (s.setInbox ms).status = s.status := rfl
@[simp] theorem State.setInbox_arg0 (s : State) (ms : List AgentMove) : (s.setInbox ms).arg0 = s.arg0 := rfl
@[simp] theorem State.setInbox_arg1 (s : State) (ms : List AgentMove) : (s.setInbox ms).arg1 = s.arg1 := rfl
@[simp] theorem State.setInbox_arg2 (s : State) (ms : List AgentMove) : (s.setInbox ms).arg2 = s.arg2 := rfl
@[simp] theorem State.setInbox_res (s : State) (ms : List AgentMove) : (s.setInbox ms).res = s.res := rfl
@[simp] theorem State.setInbox_cfg (s : State) (ms : List AgentMove) : (s.setInbox ms).cfg = s.cfg := rfl
@[simp] theorem State.setInbox_wheels (s : State) (ms : List AgentMove) : (s.setInbox ms).wheels = s.wheels := rfl
@[simp] theorem State.setInbox_odom (s : State) (ms : List AgentMove) : (s.setInbox ms).odom = s.odom := rfl
@[simp] theorem State.setInbox_nowMs (s : State) (ms : List AgentMove) : (s.setInbox ms).nowMs = s.nowMs := rfl
@[simp] theorem State.setInbox_lastCmdMs (s : State) (ms : List AgentMove) :
    (s.setInbox ms).lastCmdMs = s.lastCmdMs := rfl
@[simp] theorem State.setInbox_channels (s : State) (ms : List AgentMove) :
    (s.setInbox ms).channels = s.channels := rfl
@[simp] theorem State.setInbox_busRData (s : State) (ms : List AgentMove) :
    (s.setInbox ms).busRData = s.busRData := rfl
@[simp] theorem State.setInbox_inbox (s : State) (ms : List AgentMove) : (s.setInbox ms).inbox = ms := rfl

@[simp] theorem onWheel_params (w : WheelId) (f : Wheel → Wheel) (s : State) :
    (onWheel w f s).params = s.params := rfl
@[simp] theorem onWheel_status (w : WheelId) (f : Wheel → Wheel) (s : State) :
    (onWheel w f s).status = s.status := rfl
@[simp] theorem onWheel_arg0 (w : WheelId) (f : Wheel → Wheel) (s : State) : (onWheel w f s).arg0 = s.arg0 := rfl
@[simp] theorem onWheel_arg1 (w : WheelId) (f : Wheel → Wheel) (s : State) : (onWheel w f s).arg1 = s.arg1 := rfl
@[simp] theorem onWheel_arg2 (w : WheelId) (f : Wheel → Wheel) (s : State) : (onWheel w f s).arg2 = s.arg2 := rfl
@[simp] theorem onWheel_res (w : WheelId) (f : Wheel → Wheel) (s : State) : (onWheel w f s).res = s.res := rfl
@[simp] theorem onWheel_cfg (w : WheelId) (f : Wheel → Wheel) (s : State) : (onWheel w f s).cfg = s.cfg := rfl
@[simp] theorem onWheel_wheels (w : WheelId) (f : Wheel → Wheel) (s : State) :
    (onWheel w f s).wheels = s.wheels.set w (f (s.wheel w)) := rfl
@[simp] theorem onWheel_odom (w : WheelId) (f : Wheel → Wheel) (s : State) : (onWheel w f s).odom = s.odom := rfl
@[simp] theorem onWheel_nowMs (w : WheelId) (f : Wheel → Wheel) (s : State) : (onWheel w f s).nowMs = s.nowMs := rfl
@[simp] theorem onWheel_lastCmdMs (w : WheelId) (f : Wheel → Wheel) (s : State) :
    (onWheel w f s).lastCmdMs = s.lastCmdMs := rfl
@[simp] theorem onWheel_channels (w : WheelId) (f : Wheel → Wheel) (s : State) :
    (onWheel w f s).channels = s.channels := rfl
@[simp] theorem onWheel_busRData (w : WheelId) (f : Wheel → Wheel) (s : State) :
    (onWheel w f s).busRData = s.busRData := rfl
@[simp] theorem onWheel_inbox (w : WheelId) (f : Wheel → Wheel) (s : State) : (onWheel w f s).inbox = s.inbox := rfl

@[simp] theorem onWheels_params (f : Wheel → Wheel) (s : State) : (onWheels f s).params = s.params := rfl
@[simp] theorem onWheels_status (f : Wheel → Wheel) (s : State) : (onWheels f s).status = s.status := rfl
@[simp] theorem onWheels_arg0 (f : Wheel → Wheel) (s : State) : (onWheels f s).arg0 = s.arg0 := rfl
@[simp] theorem onWheels_arg1 (f : Wheel → Wheel) (s : State) : (onWheels f s).arg1 = s.arg1 := rfl
@[simp] theorem onWheels_arg2 (f : Wheel → Wheel) (s : State) : (onWheels f s).arg2 = s.arg2 := rfl
@[simp] theorem onWheels_res (f : Wheel → Wheel) (s : State) : (onWheels f s).res = s.res := rfl
@[simp] theorem onWheels_cfg (f : Wheel → Wheel) (s : State) : (onWheels f s).cfg = s.cfg := rfl
@[simp] theorem onWheels_wheels (f : Wheel → Wheel) (s : State) : (onWheels f s).wheels = s.wheels.map f := rfl
@[simp] theorem onWheels_odom (f : Wheel → Wheel) (s : State) : (onWheels f s).odom = s.odom := rfl
@[simp] theorem onWheels_nowMs (f : Wheel → Wheel) (s : State) : (onWheels f s).nowMs = s.nowMs := rfl
@[simp] theorem onWheels_lastCmdMs (f : Wheel → Wheel) (s : State) : (onWheels f s).lastCmdMs = s.lastCmdMs := rfl
@[simp] theorem onWheels_channels (f : Wheel → Wheel) (s : State) : (onWheels f s).channels = s.channels := rfl
@[simp] theorem onWheels_busRData (f : Wheel → Wheel) (s : State) : (onWheels f s).busRData = s.busRData := rfl
@[simp] theorem onWheels_inbox (f : Wheel → Wheel) (s : State) : (onWheels f s).inbox = s.inbox := rfl

@[simp] theorem refuse_params (code : RefusalCode) (s : State) : (refuse code s).params = s.params := rfl
@[simp] theorem refuse_status (code : RefusalCode) (s : State) :
    (refuse code s).status = { s.status with err := true, ecode := ecodeOf code } := rfl
@[simp] theorem refuse_arg0 (code : RefusalCode) (s : State) : (refuse code s).arg0 = s.arg0 := rfl
@[simp] theorem refuse_arg1 (code : RefusalCode) (s : State) : (refuse code s).arg1 = s.arg1 := rfl
@[simp] theorem refuse_arg2 (code : RefusalCode) (s : State) : (refuse code s).arg2 = s.arg2 := rfl
@[simp] theorem refuse_res (code : RefusalCode) (s : State) : (refuse code s).res = s.res := rfl
@[simp] theorem refuse_cfg (code : RefusalCode) (s : State) : (refuse code s).cfg = s.cfg := rfl
@[simp] theorem refuse_wheels (code : RefusalCode) (s : State) : (refuse code s).wheels = s.wheels := rfl
@[simp] theorem refuse_odom (code : RefusalCode) (s : State) : (refuse code s).odom = s.odom := rfl
@[simp] theorem refuse_nowMs (code : RefusalCode) (s : State) : (refuse code s).nowMs = s.nowMs := rfl
@[simp] theorem refuse_lastCmdMs (code : RefusalCode) (s : State) : (refuse code s).lastCmdMs = s.lastCmdMs := rfl
@[simp] theorem refuse_channels (code : RefusalCode) (s : State) : (refuse code s).channels = s.channels := rfl
@[simp] theorem refuse_busRData (code : RefusalCode) (s : State) : (refuse code s).busRData = s.busRData := rfl
@[simp] theorem refuse_inbox (code : RefusalCode) (s : State) : (refuse code s).inbox = s.inbox := rfl

@[simp] theorem raiseBusErr_params (s : State) : (raiseBusErr s).params = s.params := rfl
@[simp] theorem raiseBusErr_status (s : State) : (raiseBusErr s).status = { s.status with busErr := true } := rfl
@[simp] theorem raiseBusErr_arg0 (s : State) : (raiseBusErr s).arg0 = s.arg0 := rfl
@[simp] theorem raiseBusErr_arg1 (s : State) : (raiseBusErr s).arg1 = s.arg1 := rfl
@[simp] theorem raiseBusErr_arg2 (s : State) : (raiseBusErr s).arg2 = s.arg2 := rfl
@[simp] theorem raiseBusErr_res (s : State) : (raiseBusErr s).res = s.res := rfl
@[simp] theorem raiseBusErr_cfg (s : State) : (raiseBusErr s).cfg = s.cfg := rfl
@[simp] theorem raiseBusErr_wheels (s : State) : (raiseBusErr s).wheels = s.wheels := rfl
@[simp] theorem raiseBusErr_odom (s : State) : (raiseBusErr s).odom = s.odom := rfl
@[simp] theorem raiseBusErr_nowMs (s : State) : (raiseBusErr s).nowMs = s.nowMs := rfl
@[simp] theorem raiseBusErr_lastCmdMs (s : State) : (raiseBusErr s).lastCmdMs = s.lastCmdMs := rfl
@[simp] theorem raiseBusErr_channels (s : State) : (raiseBusErr s).channels = s.channels := rfl
@[simp] theorem raiseBusErr_busRData (s : State) : (raiseBusErr s).busRData = s.busRData := rfl
@[simp] theorem raiseBusErr_inbox (s : State) : (raiseBusErr s).inbox = s.inbox := rfl

@[simp] theorem noteNumErr_params (nan : Bool) (s : State) : (noteNumErr nan s).params = s.params := rfl
@[simp] theorem noteNumErr_status (nan : Bool) (s : State) :
    (noteNumErr nan s).status = { s.status with numErr := s.status.numErr || nan } := rfl
@[simp] theorem noteNumErr_arg0 (nan : Bool) (s : State) : (noteNumErr nan s).arg0 = s.arg0 := rfl
@[simp] theorem noteNumErr_arg1 (nan : Bool) (s : State) : (noteNumErr nan s).arg1 = s.arg1 := rfl
@[simp] theorem noteNumErr_arg2 (nan : Bool) (s : State) : (noteNumErr nan s).arg2 = s.arg2 := rfl
@[simp] theorem noteNumErr_res (nan : Bool) (s : State) : (noteNumErr nan s).res = s.res := rfl
@[simp] theorem noteNumErr_cfg (nan : Bool) (s : State) : (noteNumErr nan s).cfg = s.cfg := rfl
@[simp] theorem noteNumErr_wheels (nan : Bool) (s : State) : (noteNumErr nan s).wheels = s.wheels := rfl
@[simp] theorem noteNumErr_odom (nan : Bool) (s : State) : (noteNumErr nan s).odom = s.odom := rfl
@[simp] theorem noteNumErr_nowMs (nan : Bool) (s : State) : (noteNumErr nan s).nowMs = s.nowMs := rfl
@[simp] theorem noteNumErr_lastCmdMs (nan : Bool) (s : State) : (noteNumErr nan s).lastCmdMs = s.lastCmdMs := rfl
@[simp] theorem noteNumErr_channels (nan : Bool) (s : State) : (noteNumErr nan s).channels = s.channels := rfl
@[simp] theorem noteNumErr_busRData (nan : Bool) (s : State) : (noteNumErr nan s).busRData = s.busRData := rfl
@[simp] theorem noteNumErr_inbox (nan : Bool) (s : State) : (noteNumErr nan s).inbox = s.inbox := rfl

@[simp] theorem setTimeout_params (b : Bool) (s : State) : (setTimeout b s).params = s.params := rfl
@[simp] theorem setTimeout_status (b : Bool) (s : State) :
    (setTimeout b s).status = { s.status with timeout := b } := rfl
@[simp] theorem setTimeout_arg0 (b : Bool) (s : State) : (setTimeout b s).arg0 = s.arg0 := rfl
@[simp] theorem setTimeout_arg1 (b : Bool) (s : State) : (setTimeout b s).arg1 = s.arg1 := rfl
@[simp] theorem setTimeout_arg2 (b : Bool) (s : State) : (setTimeout b s).arg2 = s.arg2 := rfl
@[simp] theorem setTimeout_res (b : Bool) (s : State) : (setTimeout b s).res = s.res := rfl
@[simp] theorem setTimeout_cfg (b : Bool) (s : State) : (setTimeout b s).cfg = s.cfg := rfl
@[simp] theorem setTimeout_wheels (b : Bool) (s : State) : (setTimeout b s).wheels = s.wheels := rfl
@[simp] theorem setTimeout_odom (b : Bool) (s : State) : (setTimeout b s).odom = s.odom := rfl
@[simp] theorem setTimeout_nowMs (b : Bool) (s : State) : (setTimeout b s).nowMs = s.nowMs := rfl
@[simp] theorem setTimeout_lastCmdMs (b : Bool) (s : State) : (setTimeout b s).lastCmdMs = s.lastCmdMs := rfl
@[simp] theorem setTimeout_channels (b : Bool) (s : State) : (setTimeout b s).channels = s.channels := rfl
@[simp] theorem setTimeout_busRData (b : Bool) (s : State) : (setTimeout b s).busRData = s.busRData := rfl
@[simp] theorem setTimeout_inbox (b : Bool) (s : State) : (setTimeout b s).inbox = s.inbox := rfl

@[simp] theorem setReady_params (s : State) : (setReady s).params = s.params := rfl
@[simp] theorem setReady_status (s : State) : (setReady s).status = { s.status with ready := true } := rfl
@[simp] theorem setReady_arg0 (s : State) : (setReady s).arg0 = s.arg0 := rfl
@[simp] theorem setReady_arg1 (s : State) : (setReady s).arg1 = s.arg1 := rfl
@[simp] theorem setReady_arg2 (s : State) : (setReady s).arg2 = s.arg2 := rfl
@[simp] theorem setReady_res (s : State) : (setReady s).res = s.res := rfl
@[simp] theorem setReady_cfg (s : State) : (setReady s).cfg = s.cfg := rfl
@[simp] theorem setReady_wheels (s : State) : (setReady s).wheels = s.wheels := rfl
@[simp] theorem setReady_odom (s : State) : (setReady s).odom = s.odom := rfl
@[simp] theorem setReady_nowMs (s : State) : (setReady s).nowMs = s.nowMs := rfl
@[simp] theorem setReady_lastCmdMs (s : State) : (setReady s).lastCmdMs = s.lastCmdMs := rfl
@[simp] theorem setReady_channels (s : State) : (setReady s).channels = s.channels := rfl
@[simp] theorem setReady_busRData (s : State) : (setReady s).busRData = s.busRData := rfl
@[simp] theorem setReady_inbox (s : State) : (setReady s).inbox = s.inbox := rfl

@[simp] theorem clearErrors_params (v : Word) (s : State) : (clearErrors v s).params = s.params := rfl
@[simp] theorem clearErrors_status (v : Word) (s : State) : (clearErrors v s).status = clearedStatus v s.status := rfl
@[simp] theorem clearErrors_arg0 (v : Word) (s : State) : (clearErrors v s).arg0 = s.arg0 := rfl
@[simp] theorem clearErrors_arg1 (v : Word) (s : State) : (clearErrors v s).arg1 = s.arg1 := rfl
@[simp] theorem clearErrors_arg2 (v : Word) (s : State) : (clearErrors v s).arg2 = s.arg2 := rfl
@[simp] theorem clearErrors_res (v : Word) (s : State) : (clearErrors v s).res = s.res := rfl
@[simp] theorem clearErrors_cfg (v : Word) (s : State) : (clearErrors v s).cfg = s.cfg := rfl
@[simp] theorem clearErrors_wheels (v : Word) (s : State) : (clearErrors v s).wheels = s.wheels := rfl
@[simp] theorem clearErrors_odom (v : Word) (s : State) : (clearErrors v s).odom = s.odom := rfl
@[simp] theorem clearErrors_nowMs (v : Word) (s : State) : (clearErrors v s).nowMs = s.nowMs := rfl
@[simp] theorem clearErrors_lastCmdMs (v : Word) (s : State) : (clearErrors v s).lastCmdMs = s.lastCmdMs := rfl
@[simp] theorem clearErrors_channels (v : Word) (s : State) : (clearErrors v s).channels = s.channels := rfl
@[simp] theorem clearErrors_busRData (v : Word) (s : State) : (clearErrors v s).busRData = s.busRData := rfl
@[simp] theorem clearErrors_inbox (v : Word) (s : State) : (clearErrors v s).inbox = s.inbox := rfl

@[simp] theorem malformedRead_params (s : State) : (malformedRead s).params = s.params := rfl
@[simp] theorem malformedRead_status (s : State) : (malformedRead s).status = { s.status with busErr := true } := rfl
@[simp] theorem malformedRead_arg0 (s : State) : (malformedRead s).arg0 = s.arg0 := rfl
@[simp] theorem malformedRead_arg1 (s : State) : (malformedRead s).arg1 = s.arg1 := rfl
@[simp] theorem malformedRead_arg2 (s : State) : (malformedRead s).arg2 = s.arg2 := rfl
@[simp] theorem malformedRead_res (s : State) : (malformedRead s).res = s.res := rfl
@[simp] theorem malformedRead_cfg (s : State) : (malformedRead s).cfg = s.cfg := rfl
@[simp] theorem malformedRead_wheels (s : State) : (malformedRead s).wheels = s.wheels := rfl
@[simp] theorem malformedRead_odom (s : State) : (malformedRead s).odom = s.odom := rfl
@[simp] theorem malformedRead_nowMs (s : State) : (malformedRead s).nowMs = s.nowMs := rfl
@[simp] theorem malformedRead_lastCmdMs (s : State) : (malformedRead s).lastCmdMs = s.lastCmdMs := rfl
@[simp] theorem malformedRead_channels (s : State) : (malformedRead s).channels = s.channels := rfl
@[simp] theorem malformedRead_busRData (s : State) : (malformedRead s).busRData = 0 := rfl
@[simp] theorem malformedRead_inbox (s : State) : (malformedRead s).inbox = s.inbox := rfl

@[simp] theorem malformedWrite_params (s : State) : (malformedWrite s).params = s.params := rfl
@[simp] theorem malformedWrite_status (s : State) :
    (malformedWrite s).status = { s.status with busErr := true } := rfl
@[simp] theorem malformedWrite_arg0 (s : State) : (malformedWrite s).arg0 = s.arg0 := rfl
@[simp] theorem malformedWrite_arg1 (s : State) : (malformedWrite s).arg1 = s.arg1 := rfl
@[simp] theorem malformedWrite_arg2 (s : State) : (malformedWrite s).arg2 = s.arg2 := rfl
@[simp] theorem malformedWrite_res (s : State) : (malformedWrite s).res = s.res := rfl
@[simp] theorem malformedWrite_cfg (s : State) : (malformedWrite s).cfg = s.cfg := rfl
@[simp] theorem malformedWrite_wheels (s : State) : (malformedWrite s).wheels = s.wheels := rfl
@[simp] theorem malformedWrite_odom (s : State) : (malformedWrite s).odom = s.odom := rfl
@[simp] theorem malformedWrite_nowMs (s : State) : (malformedWrite s).nowMs = s.nowMs := rfl
@[simp] theorem malformedWrite_lastCmdMs (s : State) : (malformedWrite s).lastCmdMs = s.lastCmdMs := rfl
@[simp] theorem malformedWrite_channels (s : State) : (malformedWrite s).channels = s.channels := rfl
@[simp] theorem malformedWrite_busRData (s : State) : (malformedWrite s).busRData = s.busRData := rfl
@[simp] theorem malformedWrite_inbox (s : State) : (malformedWrite s).inbox = s.inbox := rfl

@[simp] theorem strobeEncReset_params (w : WheelId) (s : State) : (strobeEncReset w s).params = s.params := rfl
@[simp] theorem strobeEncReset_status (w : WheelId) (s : State) : (strobeEncReset w s).status = s.status := rfl
@[simp] theorem strobeEncReset_arg0 (w : WheelId) (s : State) : (strobeEncReset w s).arg0 = s.arg0 := rfl
@[simp] theorem strobeEncReset_arg1 (w : WheelId) (s : State) : (strobeEncReset w s).arg1 = s.arg1 := rfl
@[simp] theorem strobeEncReset_arg2 (w : WheelId) (s : State) : (strobeEncReset w s).arg2 = s.arg2 := rfl
@[simp] theorem strobeEncReset_res (w : WheelId) (s : State) : (strobeEncReset w s).res = s.res := rfl
@[simp] theorem strobeEncReset_cfg (w : WheelId) (s : State) : (strobeEncReset w s).cfg = s.cfg := rfl
@[simp] theorem strobeEncReset_wheels (w : WheelId) (s : State) : (strobeEncReset w s).wheels = s.wheels := rfl
@[simp] theorem strobeEncReset_odom (w : WheelId) (s : State) : (strobeEncReset w s).odom = s.odom := rfl
@[simp] theorem strobeEncReset_nowMs (w : WheelId) (s : State) : (strobeEncReset w s).nowMs = s.nowMs := rfl
@[simp] theorem strobeEncReset_lastCmdMs (w : WheelId) (s : State) :
    (strobeEncReset w s).lastCmdMs = s.lastCmdMs := rfl
@[simp] theorem strobeEncReset_channels (w : WheelId) (s : State) :
    (strobeEncReset w s).channels = s.channels.set w { s.channel w with encCnt := 0 } := rfl
@[simp] theorem strobeEncReset_busRData (w : WheelId) (s : State) : (strobeEncReset w s).busRData = s.busRData := rfl
@[simp] theorem strobeEncReset_inbox (w : WheelId) (s : State) : (strobeEncReset w s).inbox = s.inbox := rfl

@[simp] theorem envSetEncoder_params (w : WheelId) (n : Word) (s : State) :
    (envSetEncoder w n s).params = s.params := rfl
@[simp] theorem envSetEncoder_status (w : WheelId) (n : Word) (s : State) :
    (envSetEncoder w n s).status = s.status := rfl
@[simp] theorem envSetEncoder_arg0 (w : WheelId) (n : Word) (s : State) : (envSetEncoder w n s).arg0 = s.arg0 := rfl
@[simp] theorem envSetEncoder_arg1 (w : WheelId) (n : Word) (s : State) : (envSetEncoder w n s).arg1 = s.arg1 := rfl
@[simp] theorem envSetEncoder_arg2 (w : WheelId) (n : Word) (s : State) : (envSetEncoder w n s).arg2 = s.arg2 := rfl
@[simp] theorem envSetEncoder_res (w : WheelId) (n : Word) (s : State) : (envSetEncoder w n s).res = s.res := rfl
@[simp] theorem envSetEncoder_cfg (w : WheelId) (n : Word) (s : State) : (envSetEncoder w n s).cfg = s.cfg := rfl
@[simp] theorem envSetEncoder_wheels (w : WheelId) (n : Word) (s : State) :
    (envSetEncoder w n s).wheels = s.wheels := rfl
@[simp] theorem envSetEncoder_odom (w : WheelId) (n : Word) (s : State) : (envSetEncoder w n s).odom = s.odom := rfl
@[simp] theorem envSetEncoder_nowMs (w : WheelId) (n : Word) (s : State) :
    (envSetEncoder w n s).nowMs = s.nowMs := rfl
@[simp] theorem envSetEncoder_lastCmdMs (w : WheelId) (n : Word) (s : State) :
    (envSetEncoder w n s).lastCmdMs = s.lastCmdMs := rfl
@[simp] theorem envSetEncoder_channels (w : WheelId) (n : Word) (s : State) :
    (envSetEncoder w n s).channels = s.channels.set w { s.channel w with encCnt := truncEnc s.params.wEnc n } := rfl
@[simp] theorem envSetEncoder_busRData (w : WheelId) (n : Word) (s : State) :
    (envSetEncoder w n s).busRData = s.busRData := rfl
@[simp] theorem envSetEncoder_inbox (w : WheelId) (n : Word) (s : State) :
    (envSetEncoder w n s).inbox = s.inbox := rfl

@[simp] theorem envSetCurrent_params (w : WheelId) (x : Word) (s : State) :
    (envSetCurrent w x s).params = s.params := rfl
@[simp] theorem envSetCurrent_status (w : WheelId) (x : Word) (s : State) :
    (envSetCurrent w x s).status = s.status := rfl
@[simp] theorem envSetCurrent_arg0 (w : WheelId) (x : Word) (s : State) : (envSetCurrent w x s).arg0 = s.arg0 := rfl
@[simp] theorem envSetCurrent_arg1 (w : WheelId) (x : Word) (s : State) : (envSetCurrent w x s).arg1 = s.arg1 := rfl
@[simp] theorem envSetCurrent_arg2 (w : WheelId) (x : Word) (s : State) : (envSetCurrent w x s).arg2 = s.arg2 := rfl
@[simp] theorem envSetCurrent_res (w : WheelId) (x : Word) (s : State) : (envSetCurrent w x s).res = s.res := rfl
@[simp] theorem envSetCurrent_cfg (w : WheelId) (x : Word) (s : State) : (envSetCurrent w x s).cfg = s.cfg := rfl
@[simp] theorem envSetCurrent_wheels (w : WheelId) (x : Word) (s : State) :
    (envSetCurrent w x s).wheels = s.wheels := rfl
@[simp] theorem envSetCurrent_odom (w : WheelId) (x : Word) (s : State) : (envSetCurrent w x s).odom = s.odom := rfl
@[simp] theorem envSetCurrent_nowMs (w : WheelId) (x : Word) (s : State) :
    (envSetCurrent w x s).nowMs = s.nowMs := rfl
@[simp] theorem envSetCurrent_lastCmdMs (w : WheelId) (x : Word) (s : State) :
    (envSetCurrent w x s).lastCmdMs = s.lastCmdMs := rfl
@[simp] theorem envSetCurrent_channels (w : WheelId) (x : Word) (s : State) :
    (envSetCurrent w x s).channels = s.channels.set w { s.channel w with iWind := x } := rfl
@[simp] theorem envSetCurrent_busRData (w : WheelId) (x : Word) (s : State) :
    (envSetCurrent w x s).busRData = s.busRData := rfl
@[simp] theorem envSetCurrent_inbox (w : WheelId) (x : Word) (s : State) :
    (envSetCurrent w x s).inbox = s.inbox := rfl

@[simp] theorem setSideTargets_params (l r : Word) (s : State) : (setSideTargets l r s).params = s.params := rfl
@[simp] theorem setSideTargets_status (l r : Word) (s : State) : (setSideTargets l r s).status = s.status := rfl
@[simp] theorem setSideTargets_arg0 (l r : Word) (s : State) : (setSideTargets l r s).arg0 = s.arg0 := rfl
@[simp] theorem setSideTargets_arg1 (l r : Word) (s : State) : (setSideTargets l r s).arg1 = s.arg1 := rfl
@[simp] theorem setSideTargets_arg2 (l r : Word) (s : State) : (setSideTargets l r s).arg2 = s.arg2 := rfl
@[simp] theorem setSideTargets_res (l r : Word) (s : State) : (setSideTargets l r s).res = s.res := rfl
@[simp] theorem setSideTargets_cfg (l r : Word) (s : State) : (setSideTargets l r s).cfg = s.cfg := rfl
@[simp] theorem setSideTargets_odom (l r : Word) (s : State) : (setSideTargets l r s).odom = s.odom := rfl
@[simp] theorem setSideTargets_nowMs (l r : Word) (s : State) : (setSideTargets l r s).nowMs = s.nowMs := rfl
@[simp] theorem setSideTargets_lastCmdMs (l r : Word) (s : State) :
    (setSideTargets l r s).lastCmdMs = s.lastCmdMs := rfl
@[simp] theorem setSideTargets_channels (l r : Word) (s : State) : (setSideTargets l r s).channels = s.channels := rfl
@[simp] theorem setSideTargets_busRData (l r : Word) (s : State) : (setSideTargets l r s).busRData = s.busRData := rfl
@[simp] theorem setSideTargets_inbox (l r : Word) (s : State) : (setSideTargets l r s).inbox = s.inbox := rfl

@[simp] theorem odometry_params (dt : Half) (s : State) : (odometry dt s).params = s.params := rfl
@[simp] theorem odometry_status (dt : Half) (s : State) : (odometry dt s).status = s.status := rfl
@[simp] theorem odometry_arg0 (dt : Half) (s : State) : (odometry dt s).arg0 = s.arg0 := rfl
@[simp] theorem odometry_arg1 (dt : Half) (s : State) : (odometry dt s).arg1 = s.arg1 := rfl
@[simp] theorem odometry_arg2 (dt : Half) (s : State) : (odometry dt s).arg2 = s.arg2 := rfl
@[simp] theorem odometry_res (dt : Half) (s : State) : (odometry dt s).res = s.res := rfl
@[simp] theorem odometry_cfg (dt : Half) (s : State) : (odometry dt s).cfg = s.cfg := rfl
@[simp] theorem odometry_wheels (dt : Half) (s : State) : (odometry dt s).wheels = s.wheels := rfl
@[simp] theorem odometry_odom (dt : Half) (s : State) :
    (odometry dt s).odom = eulerStep s.odom (bodyLinear s) (bodyAngular s) (tickSeconds dt) := rfl
@[simp] theorem odometry_nowMs (dt : Half) (s : State) : (odometry dt s).nowMs = s.nowMs := rfl
@[simp] theorem odometry_lastCmdMs (dt : Half) (s : State) : (odometry dt s).lastCmdMs = s.lastCmdMs := rfl
@[simp] theorem odometry_channels (dt : Half) (s : State) : (odometry dt s).channels = s.channels := rfl
@[simp] theorem odometry_busRData (dt : Half) (s : State) : (odometry dt s).busRData = s.busRData := rfl
@[simp] theorem odometry_inbox (dt : Half) (s : State) : (odometry dt s).inbox = s.inbox := rfl

@[simp] theorem initWheel_params (lim : Word) (w : WheelId) (s : State) : (initWheel lim w s).params = s.params := rfl
@[simp] theorem initWheel_status (lim : Word) (w : WheelId) (s : State) : (initWheel lim w s).status = s.status := rfl
@[simp] theorem initWheel_arg0 (lim : Word) (w : WheelId) (s : State) : (initWheel lim w s).arg0 = s.arg0 := rfl
@[simp] theorem initWheel_arg1 (lim : Word) (w : WheelId) (s : State) : (initWheel lim w s).arg1 = s.arg1 := rfl
@[simp] theorem initWheel_arg2 (lim : Word) (w : WheelId) (s : State) : (initWheel lim w s).arg2 = s.arg2 := rfl
@[simp] theorem initWheel_res (lim : Word) (w : WheelId) (s : State) : (initWheel lim w s).res = s.res := rfl
@[simp] theorem initWheel_cfg (lim : Word) (w : WheelId) (s : State) : (initWheel lim w s).cfg = s.cfg := rfl
@[simp] theorem initWheel_wheels (lim : Word) (w : WheelId) (s : State) :
    (initWheel lim w s).wheels = s.wheels.set w (wheelInit s w lim (s.wheel w)) := rfl
@[simp] theorem initWheel_odom (lim : Word) (w : WheelId) (s : State) : (initWheel lim w s).odom = s.odom := rfl
@[simp] theorem initWheel_nowMs (lim : Word) (w : WheelId) (s : State) : (initWheel lim w s).nowMs = s.nowMs := rfl
@[simp] theorem initWheel_lastCmdMs (lim : Word) (w : WheelId) (s : State) :
    (initWheel lim w s).lastCmdMs = s.lastCmdMs := rfl
@[simp] theorem initWheel_channels (lim : Word) (w : WheelId) (s : State) :
    (initWheel lim w s).channels = s.channels.set w { s.channel w with encCnt := 0 } := rfl
@[simp] theorem initWheel_busRData (lim : Word) (w : WheelId) (s : State) :
    (initWheel lim w s).busRData = s.busRData := rfl
@[simp] theorem initWheel_inbox (lim : Word) (w : WheelId) (s : State) : (initWheel lim w s).inbox = s.inbox := rfl

@[simp] theorem tickWheel_params (dt : Half) (w : WheelId) (raw : Word) (s : State) :
    (tickWheel dt w raw s).params = s.params := rfl
@[simp] theorem tickWheel_status (dt : Half) (w : WheelId) (raw : Word) (s : State) :
    (tickWheel dt w raw s).status = { s.status with numErr := s.status.numErr || wheelUpdateNumErr s.params (s.wheel w) dt raw } := rfl
@[simp] theorem tickWheel_arg0 (dt : Half) (w : WheelId) (raw : Word) (s : State) :
    (tickWheel dt w raw s).arg0 = s.arg0 := rfl
@[simp] theorem tickWheel_arg1 (dt : Half) (w : WheelId) (raw : Word) (s : State) :
    (tickWheel dt w raw s).arg1 = s.arg1 := rfl
@[simp] theorem tickWheel_arg2 (dt : Half) (w : WheelId) (raw : Word) (s : State) :
    (tickWheel dt w raw s).arg2 = s.arg2 := rfl
@[simp] theorem tickWheel_res (dt : Half) (w : WheelId) (raw : Word) (s : State) :
    (tickWheel dt w raw s).res = s.res := rfl
@[simp] theorem tickWheel_cfg (dt : Half) (w : WheelId) (raw : Word) (s : State) :
    (tickWheel dt w raw s).cfg = s.cfg := rfl
@[simp] theorem tickWheel_wheels (dt : Half) (w : WheelId) (raw : Word) (s : State) :
    (tickWheel dt w raw s).wheels = s.wheels.set w (wheelUpdate s.params (s.wheel w) dt raw) := rfl
@[simp] theorem tickWheel_odom (dt : Half) (w : WheelId) (raw : Word) (s : State) :
    (tickWheel dt w raw s).odom = s.odom := rfl
@[simp] theorem tickWheel_nowMs (dt : Half) (w : WheelId) (raw : Word) (s : State) :
    (tickWheel dt w raw s).nowMs = s.nowMs := rfl
@[simp] theorem tickWheel_lastCmdMs (dt : Half) (w : WheelId) (raw : Word) (s : State) :
    (tickWheel dt w raw s).lastCmdMs = s.lastCmdMs := rfl
@[simp] theorem tickWheel_channels (dt : Half) (w : WheelId) (raw : Word) (s : State) :
    (tickWheel dt w raw s).channels = s.channels := rfl
@[simp] theorem tickWheel_busRData (dt : Half) (w : WheelId) (raw : Word) (s : State) :
    (tickWheel dt w raw s).busRData = s.busRData := rfl
@[simp] theorem tickWheel_inbox (dt : Half) (w : WheelId) (raw : Word) (s : State) :
    (tickWheel dt w raw s).inbox = s.inbox := rfl

@[simp] theorem failSafe_params (s : State) : (failSafe s).params = s.params := by unfold failSafe; split <;> rfl
@[simp] theorem failSafe_arg0 (s : State) : (failSafe s).arg0 = s.arg0 := by unfold failSafe; split <;> rfl
@[simp] theorem failSafe_arg1 (s : State) : (failSafe s).arg1 = s.arg1 := by unfold failSafe; split <;> rfl
@[simp] theorem failSafe_arg2 (s : State) : (failSafe s).arg2 = s.arg2 := by unfold failSafe; split <;> rfl
@[simp] theorem failSafe_res (s : State) : (failSafe s).res = s.res := by unfold failSafe; split <;> rfl
@[simp] theorem failSafe_cfg (s : State) : (failSafe s).cfg = s.cfg := by unfold failSafe; split <;> rfl
@[simp] theorem failSafe_odom (s : State) : (failSafe s).odom = s.odom := by unfold failSafe; split <;> rfl
@[simp] theorem failSafe_nowMs (s : State) : (failSafe s).nowMs = s.nowMs := by unfold failSafe; split <;> rfl
@[simp] theorem failSafe_lastCmdMs (s : State) :
    (failSafe s).lastCmdMs = s.lastCmdMs := by unfold failSafe; split <;> rfl
@[simp] theorem failSafe_channels (s : State) :
    (failSafe s).channels = s.channels := by unfold failSafe; split <;> rfl
@[simp] theorem failSafe_busRData (s : State) :
    (failSafe s).busRData = s.busRData := by unfold failSafe; split <;> rfl
@[simp] theorem failSafe_inbox (s : State) : (failSafe s).inbox = s.inbox := by unfold failSafe; split <;> rfl

@[simp] theorem takeMove_params (s : State) : (takeMove s).params = s.params := rfl
@[simp] theorem takeMove_status (s : State) : (takeMove s).status = s.status := rfl
@[simp] theorem takeMove_arg0 (s : State) : (takeMove s).arg0 = s.arg0 := rfl
@[simp] theorem takeMove_arg1 (s : State) : (takeMove s).arg1 = s.arg1 := rfl
@[simp] theorem takeMove_arg2 (s : State) : (takeMove s).arg2 = s.arg2 := rfl
@[simp] theorem takeMove_res (s : State) : (takeMove s).res = s.res := rfl
@[simp] theorem takeMove_cfg (s : State) : (takeMove s).cfg = s.cfg := rfl
@[simp] theorem takeMove_wheels (s : State) : (takeMove s).wheels = s.wheels := rfl
@[simp] theorem takeMove_odom (s : State) : (takeMove s).odom = s.odom := rfl
@[simp] theorem takeMove_nowMs (s : State) : (takeMove s).nowMs = s.nowMs := rfl
@[simp] theorem takeMove_lastCmdMs (s : State) : (takeMove s).lastCmdMs = s.lastCmdMs := rfl
@[simp] theorem takeMove_channels (s : State) : (takeMove s).channels = s.channels := rfl
@[simp] theorem takeMove_busRData (s : State) : (takeMove s).busRData = s.busRData := rfl
@[simp] theorem takeMove_inbox (s : State) : (takeMove s).inbox = s.inbox.tail := rfl

/-! Reads of a wheel and of a channel under updates. -/

@[simp] theorem State.setWheel_wheel (s : State) (w : WheelId) (x : Wheel) (w' : WheelId) :
    (s.setWheel w x).wheel w' = if w' = w then x else s.wheel w' := by cases w <;> cases w' <;> rfl
@[simp] theorem State.setWheel_channel (s : State) (w : WheelId) (x : Wheel) (w' : WheelId) :
    (s.setWheel w x).channel w' = s.channel w' := rfl

@[simp] theorem State.setChannel_wheel (s : State) (w : WheelId) (c : Channel) (w' : WheelId) :
    (s.setChannel w c).wheel w' = s.wheel w' := rfl
@[simp] theorem State.setChannel_channel (s : State) (w : WheelId) (c : Channel) (w' : WheelId) :
    (s.setChannel w c).channel w' = if w' = w then c else s.channel w' := by cases w <;> cases w' <;> rfl

@[simp] theorem State.setStatus_wheel (s : State) (x : Status) (w' : WheelId) :
    (s.setStatus x).wheel w' = s.wheel w' := rfl
@[simp] theorem State.setStatus_channel (s : State) (x : Status) (w' : WheelId) :
    (s.setStatus x).channel w' = s.channel w' := rfl

@[simp] theorem State.setCfg_wheel (s : State) (x : Cfg) (w' : WheelId) : (s.setCfg x).wheel w' = s.wheel w' := rfl
@[simp] theorem State.setCfg_channel (s : State) (x : Cfg) (w' : WheelId) :
    (s.setCfg x).channel w' = s.channel w' := rfl

@[simp] theorem State.setOdom_wheel (s : State) (x : Odom) (w' : WheelId) : (s.setOdom x).wheel w' = s.wheel w' := rfl
@[simp] theorem State.setOdom_channel (s : State) (x : Odom) (w' : WheelId) :
    (s.setOdom x).channel w' = s.channel w' := rfl

@[simp] theorem State.setRes_wheel (s : State) (x : Vector Word 20) (w' : WheelId) :
    (s.setRes x).wheel w' = s.wheel w' := rfl
@[simp] theorem State.setRes_channel (s : State) (x : Vector Word 20) (w' : WheelId) :
    (s.setRes x).channel w' = s.channel w' := rfl

@[simp] theorem State.setBusRData_wheel (s : State) (v : Word) (w' : WheelId) :
    (s.setBusRData v).wheel w' = s.wheel w' := rfl
@[simp] theorem State.setBusRData_channel (s : State) (v : Word) (w' : WheelId) :
    (s.setBusRData v).channel w' = s.channel w' := rfl

@[simp] theorem State.setInbox_wheel (s : State) (ms : List AgentMove) (w' : WheelId) :
    (s.setInbox ms).wheel w' = s.wheel w' := rfl
@[simp] theorem State.setInbox_channel (s : State) (ms : List AgentMove) (w' : WheelId) :
    (s.setInbox ms).channel w' = s.channel w' := rfl

@[simp] theorem onWheel_wheel (w : WheelId) (f : Wheel → Wheel) (s : State) (w' : WheelId) :
    (onWheel w f s).wheel w' = if w' = w then f (s.wheel w) else s.wheel w' := by cases w <;> cases w' <;> rfl
@[simp] theorem onWheel_channel (w : WheelId) (f : Wheel → Wheel) (s : State) (w' : WheelId) :
    (onWheel w f s).channel w' = s.channel w' := rfl

@[simp] theorem onWheels_wheel (f : Wheel → Wheel) (s : State) (w' : WheelId) :
    (onWheels f s).wheel w' = f (s.wheel w') := by cases w' <;> rfl
@[simp] theorem onWheels_channel (f : Wheel → Wheel) (s : State) (w' : WheelId) :
    (onWheels f s).channel w' = s.channel w' := rfl

@[simp] theorem refuse_wheel (code : RefusalCode) (s : State) (w' : WheelId) :
    (refuse code s).wheel w' = s.wheel w' := rfl
@[simp] theorem refuse_channel (code : RefusalCode) (s : State) (w' : WheelId) :
    (refuse code s).channel w' = s.channel w' := rfl

@[simp] theorem raiseBusErr_wheel (s : State) (w' : WheelId) : (raiseBusErr s).wheel w' = s.wheel w' := rfl
@[simp] theorem raiseBusErr_channel (s : State) (w' : WheelId) : (raiseBusErr s).channel w' = s.channel w' := rfl

@[simp] theorem noteNumErr_wheel (nan : Bool) (s : State) (w' : WheelId) :
    (noteNumErr nan s).wheel w' = s.wheel w' := rfl
@[simp] theorem noteNumErr_channel (nan : Bool) (s : State) (w' : WheelId) :
    (noteNumErr nan s).channel w' = s.channel w' := rfl

@[simp] theorem setTimeout_wheel (b : Bool) (s : State) (w' : WheelId) : (setTimeout b s).wheel w' = s.wheel w' := rfl
@[simp] theorem setTimeout_channel (b : Bool) (s : State) (w' : WheelId) :
    (setTimeout b s).channel w' = s.channel w' := rfl

@[simp] theorem setReady_wheel (s : State) (w' : WheelId) : (setReady s).wheel w' = s.wheel w' := rfl
@[simp] theorem setReady_channel (s : State) (w' : WheelId) : (setReady s).channel w' = s.channel w' := rfl

@[simp] theorem clearErrors_wheel (v : Word) (s : State) (w' : WheelId) : (clearErrors v s).wheel w' = s.wheel w' := rfl
@[simp] theorem clearErrors_channel (v : Word) (s : State) (w' : WheelId) :
    (clearErrors v s).channel w' = s.channel w' := rfl

@[simp] theorem malformedRead_wheel (s : State) (w' : WheelId) : (malformedRead s).wheel w' = s.wheel w' := rfl
@[simp] theorem malformedRead_channel (s : State) (w' : WheelId) : (malformedRead s).channel w' = s.channel w' := rfl

@[simp] theorem malformedWrite_wheel (s : State) (w' : WheelId) : (malformedWrite s).wheel w' = s.wheel w' := rfl
@[simp] theorem malformedWrite_channel (s : State) (w' : WheelId) : (malformedWrite s).channel w' = s.channel w' := rfl

@[simp] theorem strobeEncReset_wheel (w : WheelId) (s : State) (w' : WheelId) :
    (strobeEncReset w s).wheel w' = s.wheel w' := rfl
@[simp] theorem strobeEncReset_channel (w : WheelId) (s : State) (w' : WheelId) :
    (strobeEncReset w s).channel w' = if w' = w then { s.channel w with encCnt := 0 } else s.channel w' := by cases w <;> cases w' <;> rfl

@[simp] theorem envSetEncoder_wheel (w : WheelId) (n : Word) (s : State) (w' : WheelId) :
    (envSetEncoder w n s).wheel w' = s.wheel w' := rfl
@[simp] theorem envSetEncoder_channel (w : WheelId) (n : Word) (s : State) (w' : WheelId) :
    (envSetEncoder w n s).channel w' = if w' = w then { s.channel w with encCnt := truncEnc s.params.wEnc n } else s.channel w' := by cases w <;> cases w' <;> rfl

@[simp] theorem envSetCurrent_wheel (w : WheelId) (x : Word) (s : State) (w' : WheelId) :
    (envSetCurrent w x s).wheel w' = s.wheel w' := rfl
@[simp] theorem envSetCurrent_channel (w : WheelId) (x : Word) (s : State) (w' : WheelId) :
    (envSetCurrent w x s).channel w' = if w' = w then { s.channel w with iWind := x } else s.channel w' := by cases w <;> cases w' <;> rfl

theorem setSideTargets_wheel (l r : Word) (s : State) (w' : WheelId) : (setSideTargets l r s).wheel w' =
    wheelSetTarget s.cfg.ticksPerRad (if w' = .fl ∨ w' = .rl then l else r) (s.wheel w') := by cases w' <;> rfl
@[simp] theorem setSideTargets_channel (l r : Word) (s : State) (w' : WheelId) :
    (setSideTargets l r s).channel w' = s.channel w' := rfl

@[simp] theorem odometry_wheel (dt : Half) (s : State) (w' : WheelId) : (odometry dt s).wheel w' = s.wheel w' := rfl
@[simp] theorem odometry_channel (dt : Half) (s : State) (w' : WheelId) :
    (odometry dt s).channel w' = s.channel w' := rfl

@[simp] theorem initWheel_wheel (lim : Word) (w : WheelId) (s : State) (w' : WheelId) :
    (initWheel lim w s).wheel w' = if w' = w then (wheelInit s w lim (s.wheel w)) else s.wheel w' := by cases w <;> cases w' <;> rfl
@[simp] theorem initWheel_channel (lim : Word) (w : WheelId) (s : State) (w' : WheelId) :
    (initWheel lim w s).channel w' = if w' = w then { s.channel w with encCnt := 0 } else s.channel w' := by cases w <;> cases w' <;> rfl

@[simp] theorem tickWheel_wheel (dt : Half) (w : WheelId) (raw : Word) (s : State) (w' : WheelId) :
    (tickWheel dt w raw s).wheel w' = if w' = w then (wheelUpdate s.params (s.wheel w) dt raw) else s.wheel w' := by cases w <;> cases w' <;> rfl
@[simp] theorem tickWheel_channel (dt : Half) (w : WheelId) (raw : Word) (s : State) (w' : WheelId) :
    (tickWheel dt w raw s).channel w' = s.channel w' := rfl

theorem failSafe_wheel (s : State) (w : WheelId) :
    (failSafe s).wheel w =
      { s.wheel w with targetTps := if commandStale s then 0 else (s.wheel w).targetTps } := by
  unfold failSafe; cases h : commandStale s <;> simp

@[simp] theorem failSafe_status (s : State) : (failSafe s).status = { s.status with timeout := commandStale s } := by
  unfold failSafe; cases h : commandStale s <;> rfl

@[simp] theorem failSafe_channel (s : State) (w : WheelId) : (failSafe s).channel w = s.channel w := by
  simp [State.channel]

@[simp] theorem takeMove_wheel (s : State) (w' : WheelId) : (takeMove s).wheel w' = s.wheel w' := rfl
@[simp] theorem takeMove_channel (s : State) (w' : WheelId) : (takeMove s).channel w' = s.channel w' := rfl

end Sys2Proof.Machine
end

