-- ==== Sys2Proof/Laws/Ops.lean ====
section
/-! SUPPORT. What each shared operation can do, said once: the updates with a choice in them, the meanings of the two bus
operations at a register, and the step on each move. -/

namespace Sys2Proof.Machine

/-! The address map. -/

theorem regAt_regAddr (r : Reg) : regAt (BitVec.ofNat 12 (regAddr r)) = some r := by
  cases r with
  | res k => revert k; decide +kernel
  | cfg c => cases c <;> decide +kernel
  | wheel w r => cases w <;> cases r <;> decide +kernel
  | _ => decide +kernel

theorem execRd_regAddr (r : Reg) (s : State) :
    execRd (BitVec.ofNat 12 (regAddr r)) s = .next (s.setBusRData (readReg s r)) := by
  simp only [execRd, regAt_regAddr]

theorem execWr_regAddr (r : Reg) (v : Word) (s : State) :
    execWr (BitVec.ofNat 12 (regAddr r)) v s = writeReg r v s := by
  simp only [execWr, regAt_regAddr]

theorem execWr_cmd (v : Word) (s : State) : execWr 0x014 v s = execCommandWord v s := rfl

/-- A write to a read-only register is a malformed write. -/
theorem writeReg_ro (r : Reg) (v : Word) (s : State) (h : regAccess r = .ro) :
    writeReg r v s = .next (malformedWrite s) := by
  cases r <;> first | rfl | cases h

/-- A configuration write either stores a legal value or is refused. -/
theorem writeCfg_cases (c : CfgReg) (v : Word) (s : State) :
    (cfgLegal c v = true ∧ writeCfg c v s = s.setCfg (cfgWrite s.cfg c v)) ∨
      (cfgLegal c v = false ∧ writeCfg c v s = refuse .badCfgWrite s) := by
  unfold writeCfg
  cases h : cfgLegal c v
  · exact .inr ⟨rfl, rfl⟩
  · exact .inl ⟨rfl, rfl⟩

@[simp] theorem cfgRead_cfgWrite (x : Cfg) (c c' : CfgReg) (v : Word) :
    cfgRead (cfgWrite x c v) c' = if c' = c then v else cfgRead x c' := by
  cases c <;> cases c' <;> rfl

theorem execCommand_eq_exec (c : Command) (s : State) : execCommand c s = exec c.toInstr s := by
  cases c <;> rfl

/-! INIT. -/

/-- WheelInit reads no state but the configuration registers. -/
theorem wheelInit_congr (s s' : State) (w : WheelId) (lim : Word) (x : Wheel) (h : s.cfg = s'.cfg) :
    wheelInit s w lim x = wheelInit s' w lim x := by
  simp only [wheelInit, polarityBit, h]

theorem acceptedInit_status (s : State) : (acceptedInit s).status = { s.status with ready := true } := by
  simp only [acceptedInit, setReady_status, initWheel_status]

theorem acceptedInit_wheel (s : State) (w : WheelId) :
    (acceptedInit s).wheel w = wheelInit s w (initLimit s) (s.wheel w) := by
  cases w <;> simp [acceptedInit] <;> apply wheelInit_congr <;> simp

theorem acceptedInit_channel (s : State) (w : WheelId) :
    (acceptedInit s).channel w = { s.channel w with encCnt := 0 } := by
  cases w <;> simp [acceptedInit]

/-- An accepted INIT changes READY, the wheels and the channels. -/
theorem acceptedInit_eq (s : State) :
    acceptedInit s =
      { s with
        status := { s.status with ready := true }
        wheels := (acceptedInit s).wheels
        channels := (acceptedInit s).channels } := by
  apply State.eq_of_fields <;> simp [acceptedInit]

/-! TICK. -/

/-- The wheel TICK hands to WheelUpdate: its target is zeroed when the fail-safe stop applies. -/
def tickInput (dt : Half) (s : State) (w : WheelId) : Wheel :=
  { s.wheel w with
    targetTps :=
      if commandStale { s with nowMs := s.nowMs + zext16 dt } then 0 else (s.wheel w).targetTps }

/-- The fail-safe check of a tick, as a comparison of words. -/
theorem commandStale_timed (s : State) (dt : Half) :
    commandStale { s with nowMs := s.nowMs + zext16 dt } =
      decide (s.cfg.cmdTimeout < s.nowMs + zext16 dt - s.lastCmdMs) := rfl

theorem acceptedTick_wheel (dt : Half) (s : State) (w : WheelId) :
    (acceptedTick dt s).wheel w = wheelUpdate s.params (tickInput dt s w) dt (sampleEncCnt s w) := by
  cases w <;> simp [acceptedTick, odometry_wheel, failSafe_wheel, tickInput] <;> rfl

theorem acceptedTick_numErr (dt : Half) (s : State) :
    (acceptedTick dt s).status.numErr =
      ((((s.status.numErr || wheelUpdateNumErr s.params (tickInput dt s .fl) dt (sampleEncCnt s .fl)) ||
          wheelUpdateNumErr s.params (tickInput dt s .fr) dt (sampleEncCnt s .fr)) ||
        wheelUpdateNumErr s.params (tickInput dt s .rl) dt (sampleEncCnt s .rl)) ||
      wheelUpdateNumErr s.params (tickInput dt s .rr) dt (sampleEncCnt s .rr)) := by
  simp [acceptedTick, failSafe_wheel, tickInput]
  rfl

/-- An accepted TICK changes TIMEOUT, NUMERR, the wheels, the odometry and NOW_MS. -/
theorem acceptedTick_eq (dt : Half) (s : State) :
    acceptedTick dt s =
      { s with
        status :=
          { s.status with
            timeout := commandStale { s with nowMs := s.nowMs + zext16 dt }
            numErr := (acceptedTick dt s).status.numErr }
        wheels := (acceptedTick dt s).wheels
        odom := (acceptedTick dt s).odom
        nowMs := s.nowMs + zext16 dt } := by
  apply State.eq_of_fields <;> simp [acceptedTick]

/-! The regulator's and the wheel's local operations. -/

/-- The three branches of the regulation step. -/
theorem wheelRegulate_cases (x : Wheel) (dt : Half) :
    (x.en = false ∧ wheelRegulate x dt = x) ∨
      (x.en = true ∧ x.standstill = true ∧ wheelRegulate x dt = { x with pidInteg := 0, pidPrev := 0, power := 0 }) ∨
      (x.en = true ∧ x.standstill = false ∧
        wheelRegulate x dt =
          { x with
            pidInteg := pidIntegralNext x (wheelError x) dt
            pidPrev := wheelError x
            power := f2iTrunc (pidOutput x (wheelError x) dt) }) := by
  cases he : x.en <;> cases hs : x.standstill <;> simp [wheelRegulate, regulates, he, hs, pidAdvance, pidReset]

/-- Enabling resets the regulator of a Disabled wheel and leaves an Enabled one alone. -/
theorem wheelEnable_cases (x : Wheel) :
    (x.en = true ∧ wheelEnable x = x) ∨
      (x.en = false ∧ wheelEnable x = { x with en := true, pidInteg := 0, pidPrev := 0 }) := by
  cases he : x.en <;> simp [wheelEnable, he, pidReset]

/-- AccPush stores the sample in a free slot, or over the oldest one, which it returns. -/
theorem accPush_cases (winN : Word) (x : Wheel) (smp : Sample) :
    (x.count.toNat < winN.toNat ∧
        accPush winN x smp = ({ x with buf := x.buf.set x.count.toNat smp, count := x.count + 1 }, zeroSample)) ∨
      (winN.toNat ≤ x.count.toNat ∧
        accPush winN x smp =
          ({ x with
              buf := x.buf.set x.head.toNat smp
              head := BitVec.ofNat 32 ((x.head.toNat + 1) % winN.toNat) },
            bufRead x x.head.toNat)) := by
  unfold accPush bufWrite
  split
  · exact .inl ⟨‹_›, rfl⟩
  · exact .inr ⟨by omega, rfl⟩

/-! The step. -/

/-- The next move decides what a step does; it is taken first. -/
theorem step_cons (s : State) (m : AgentMove) (ms : List AgentMove) (h : s.inbox = m :: ms) :
    (fetchMove m = .idle → step s = .next { s with inbox := ms }) ∧
      (∀ i, fetchMove m = .run i → step s = exec i { s with inbox := ms }) ∧
      (∀ b, fetchMove m = .malformed b → step s = .next (malformedAccess b { s with inbox := ms })) ∧
      (∀ w n, fetchMove m = .encoder w n → step s = .next (envSetEncoder w n { s with inbox := ms })) ∧
      (∀ w x, fetchMove m = .current w x → step s = .next (envSetCurrent w x { s with inbox := ms })) ∧
      (fetchMove m = .reset → step s = .next (coreReset { s with inbox := ms })) := by
  have ht : takeMove s = { s with inbox := ms } := by simp only [takeMove, h, State.setInbox, List.tail_cons]
  refine ⟨?_, ?_, ?_, ?_, ?_, ?_⟩ <;> intros <;> simp only [step, fetchNext, ht] <;> simp only [*]

/-- With no move to come nothing acts. -/
theorem step_nil (s : State) (h : s.inbox = []) : step s = .next s := by
  cases s; cases h; rfl

end Sys2Proof.Machine
end

