-- ==== Sys2Proof/Laws/PerInstr.lean ====
section
/-! SUPPORT. Statements made for each instruction: the word an instruction encodes to has the fixed bits of its row of
spec/opcode_table.json. -/

namespace Sys2Proof.Laws

/-- The mask and match of an instruction's row of spec/opcode_table.json. -/
def tableRow : Instr → Nat × Nat
  | .nop => (0xFFFFFFFF, 0x00000000)
  | .init => (0xFFFFFFFF, 0x00000001)
  | .tick _ => (0x0000FFFF, 0x00000002)
  | .setSpeed => (0xFFFFFFFF, 0x00000003)
  | .resetOdom => (0xFFFFFFFF, 0x00000004)
  | .enableAll => (0xFFFFFFFF, 0x00000005)
  | .disableAll => (0xFFFFFFFF, 0x00000006)
  | .getOdom => (0xFFFFFFFF, 0x00000007)
  | .getWheelStates => (0xFFFFFFFF, 0x00000008)
  | .wEnable _ => (0xFFFFFCFF, 0x00000010)
  | .wDisable _ => (0xFFFFFCFF, 0x00000011)
  | .wSetTarget _ => (0xFFFFFCFF, 0x00000012)
  | .wGetState _ => (0xFFFFFCFF, 0x00000013)
  | .pidReset _ => (0xFFFFFCFF, 0x00000014)
  | .pidSetCoeffs _ => (0xFFFFFCFF, 0x00000015)
  | .pidSetRange _ => (0xFFFFFCFF, 0x00000016)
  | .rd _ => (0xF003, 0x2000)
  | .wr _ _ => (0xF003, 0xA000)

/-- The bits the table numbers: the command word, or the descriptor of a bus request. -/
def tableBits : Frame → Nat
  | .command v => v.toNat
  | .bus desc _ => desc.toNat

namespace TableMatch

/-- A well-formed instruction's encoding has exactly the fixed bits its row gives. -/
def Statement (i : Instr) : Prop :=
  WellFormed i = true → tableBits (encode i) &&& (tableRow i).1 = (tableRow i).2

theorem nop : Statement .nop := by unfold Statement; decide

theorem init : Statement .init := by unfold Statement; decide

theorem tick (dt : Half) : Statement (.tick dt) := by
  intro _
  have h : tableBits (encode (.tick dt)) = dt.toNat * 2 ^ 16 + 2 := by
    have := dt.isLt
    simp only [tableBits, encode, encodeCommand, tickWord, BitVec.toNat_ofNat]
    omega
  rw [h]
  show _ &&& (2 ^ 16 - 1) = 2
  rw [Nat.and_two_pow_sub_one_eq_mod]
  omega

theorem setSpeed : Statement .setSpeed := by unfold Statement; decide

theorem resetOdom : Statement .resetOdom := by unfold Statement; decide

theorem enableAll : Statement .enableAll := by unfold Statement; decide

theorem disableAll : Statement .disableAll := by unfold Statement; decide

theorem getOdom : Statement .getOdom := by unfold Statement; decide

theorem getWheelStates : Statement .getWheelStates := by unfold Statement; decide

theorem wEnable (w : WheelId) : Statement (.wEnable w) := by cases w <;> (unfold Statement; decide)

theorem wDisable (w : WheelId) : Statement (.wDisable w) := by cases w <;> (unfold Statement; decide)

theorem wSetTarget (w : WheelId) : Statement (.wSetTarget w) := by cases w <;> (unfold Statement; decide)

theorem wGetState (w : WheelId) : Statement (.wGetState w) := by cases w <;> (unfold Statement; decide)

theorem pidReset (w : WheelId) : Statement (.pidReset w) := by cases w <;> (unfold Statement; decide)

theorem pidSetCoeffs (w : WheelId) : Statement (.pidSetCoeffs w) := by cases w <;> (unfold Statement; decide)

theorem pidSetRange (w : WheelId) : Statement (.pidSetRange w) := by cases w <;> (unfold Statement; decide)

/-- A descriptor's bits: direction and size above the address. -/
theorem busDescriptor_masked (b : Bool) (a : Addr) (h : alignedAddr a = true) :
    (busDescriptor b a).toNat &&& 0xF003 = if b then 0xA000 else 0x2000 := by
  have all64 : ∀ i j : Fin 64, alignedAddr (BitVec.ofNat 12 (64 * i.val + j.val)) = true →
      ∀ b : Bool, (busDescriptor b (BitVec.ofNat 12 (64 * i.val + j.val))).toNat &&& 0xF003 =
        if b then 0xA000 else 0x2000 := by
    decide +kernel
  have ha : a = BitVec.ofNat 12 (64 * (a.toNat / 64) + a.toNat % 64) := by
    apply BitVec.eq_of_toNat_eq
    have := a.isLt
    simp only [BitVec.toNat_ofNat]
    omega
  rw [ha] at h ⊢
  exact all64 ⟨a.toNat / 64, by have := a.isLt; omega⟩ ⟨a.toNat % 64, by omega⟩ h b

theorem rd (a : Addr) : Statement (.rd a) := fun h => busDescriptor_masked false a h

theorem wr (a : Addr) (v : Word) : Statement (.wr a v) := fun h => busDescriptor_masked true a h

end TableMatch

end Sys2Proof.Laws
end

