-- ==== Sys2Proof/Laws/Step.lean ====
section
/-! SUPPORT. Everything one step and one command can do, said once: the lemmas the statements about every step cite
instead of unfolding the step. -/

namespace Sys2Proof.Machine

/-- A write request's descriptor is fixed by its address. -/
theorem desc_of_decodeBus_wr (desc : Half) (data v : Word) (a : Addr) (h : decodeBus desc data = .ok (.wr a v)) :
    desc.toNat = 0xA000 + a.toNat ∧ v = data := by
  have hd := desc.isLt
  simp only [decodeBus] at h
  split at h
  · cases h
  · split at h
    · cases h
    · split at h
      · rename_i h1 _ h3
        cases h
        simp only [bitField] at h1 h3
        simp only [bitField, BitVec.toNat_ofNat, and_true]
        omega
      · cases h

/-- The addresses of the registers a write to which is more than a checked or refused one. -/
theorem regAt_writable (a : Addr) :
    (regAt a = some .cmd → a = 0x014) ∧ (regAt a = some .status → a = 0x010) ∧ (regAt a = some .arg0 → a = 0x018) ∧
      (regAt a = some .arg1 → a = 0x01C) ∧ (regAt a = some .arg2 → a = 0x020) := by
  have all64 : ∀ i j : Fin 64,
      (regAt (BitVec.ofNat 12 (64 * i.val + j.val)) = some .cmd → BitVec.ofNat 12 (64 * i.val + j.val) = 0x014) ∧
        (regAt (BitVec.ofNat 12 (64 * i.val + j.val)) = some .status → BitVec.ofNat 12 (64 * i.val + j.val) = 0x010) ∧
        (regAt (BitVec.ofNat 12 (64 * i.val + j.val)) = some .arg0 → BitVec.ofNat 12 (64 * i.val + j.val) = 0x018) ∧
        (regAt (BitVec.ofNat 12 (64 * i.val + j.val)) = some .arg1 → BitVec.ofNat 12 (64 * i.val + j.val) = 0x01C) ∧
        (regAt (BitVec.ofNat 12 (64 * i.val + j.val)) = some .arg2 → BitVec.ofNat 12 (64 * i.val + j.val) = 0x020) := by
    decide +kernel
  have ha : BitVec.ofNat 12 (64 * (a.toNat / 64) + a.toNat % 64) = a := by
    apply BitVec.eq_of_toNat_eq
    have := a.isLt
    simp only [BitVec.toNat_ofNat]
    omega
  have h := all64 ⟨a.toNat / 64, by have := a.isLt; omega⟩ ⟨a.toNat % 64, by omega⟩
  simp only [ha] at h
  exact h

/-- A tick's command word decodes to TICK with its `dt`. -/
theorem decodeCommand_tickWord (dt : Half) : decodeCommand (tickWord dt) = .ok (.tick dt) := by
  have h : dt.toNat < 65536 := dt.isLt
  have hw : (tickWord dt).toNat = dt.toNat * 2 ^ 16 + 2 := by
    simp only [tickWord, BitVec.toNat_ofNat]; omega
  have h0 : bitField (tickWord dt) 0 8 = 2 := by simp only [bitField, hw]; omega
  have h8 : bitField (tickWord dt) 8 8 = 0 := by simp only [bitField, hw]; omega
  have h16 : bitField (tickWord dt) 16 16 = dt.toNat := by simp only [bitField, hw]; omega
  simp only [decodeCommand, h0, decodeTick, h8, h16, BitVec.ofNat_toNat, BitVec.setWidth_eq, if_true]

/-- What a step can do. `takeMove s` is the state with the move taken. -/
inductive StepCase (s t : State) : Prop where
  /-- no agent acts -/
  | idle (h : s.inbox = []) (ht : t = s)
  /-- the reset input -/
  | reset (h : s.inbox.head? = some .rst) (ht : t = coreReset (takeMove s))
  /-- a legal command, from the host or the tick port -/
  | command (c : Command) (h : nextCommand s = some c) (ht : exec c.toInstr (takeMove s) = .next t)
  /-- an illegal command word -/
  | illegal (v : Word) (h : s.inbox.head? = some (.busRequest 0xA014 v)) (hn : nextCommand s = none)
      (ht : t = refuse .illegalCmd (takeMove s))
  /-- a write to STATUS -/
  | clear (v : Word) (h : s.inbox.head? = some (.busRequest 0xA010 v)) (hn : nextCommand s = none)
      (ht : t = clearErrors v (takeMove s))
  /-- a write to ARG0 -/
  | arg0 (v : Word) (h : s.inbox.head? = some (.busRequest 0xA018 v)) (hn : nextCommand s = none)
      (ht : t = { takeMove s with arg0 := v })
  /-- a write to ARG1 -/
  | arg1 (v : Word) (h : s.inbox.head? = some (.busRequest 0xA01C v)) (hn : nextCommand s = none)
      (ht : t = { takeMove s with arg1 := v })
  /-- a write to ARG2 -/
  | arg2 (v : Word) (h : s.inbox.head? = some (.busRequest 0xA020 v)) (hn : nextCommand s = none)
      (ht : t = { takeMove s with arg2 := v })
  /-- a write to a configuration register -/
  | config (c : CfgReg) (v : Word) (h : s.inbox.head? ≠ some .rst) (hn : nextCommand s = none)
      (ht : t = writeCfg c v (takeMove s))
  /-- a read of a register -/
  | read (r : Reg) (h : s.inbox.head? ≠ some .rst) (hn : nextCommand s = none)
      (ht : t = (takeMove s).setBusRData (readReg (takeMove s) r))
  /-- a malformed access -/
  | malformed (write : Bool) (h : s.inbox.head? ≠ some .rst) (hn : nextCommand s = none)
      (ht : t = malformedAccess write (takeMove s))
  /-- the environment moves an encoder counter -/
  | encoder (w : WheelId) (n : Word) (h : s.inbox.head? = some (.setEncoder w n)) (hn : nextCommand s = none)
      (ht : t = envSetEncoder w n (takeMove s))
  /-- the environment changes a winding current -/
  | current (w : WheelId) (x : Word) (h : s.inbox.head? = some (.setCurrent w x)) (hn : nextCommand s = none)
      (ht : t = envSetCurrent w x (takeMove s))

/-- Every step that answers a next state does one of these. -/
theorem step_cases (s t : State) (h : step s = .next t) : StepCase s t := by
  cases hi : s.inbox with
  | nil => rw [step_nil s hi] at h; cases h; exact .idle hi rfl
  | cons m ms =>
    have hh : s.inbox.head? = some m := by rw [hi]; rfl
    have hf : fetchNext s = fetchMove m := by simp only [fetchNext, hi]
    unfold step at h
    rw [hf] at h
    cases m with
    | rst => cases h; exact .reset hh rfl
    | setEncoder w n => cases h; exact .encoder w n hh (by simp only [nextCommand, hi]) rfl
    | setCurrent w x => cases h; exact .current w x hh (by simp only [nextCommand, hi]) rfl
    | portTick dt =>
      simp only [fetchMove, decode, decodeCommand_tickWord] at h
      exact .command (.tick dt) (by simp only [nextCommand, hi]) h
    | busRequest desc data =>
      have hr : s.inbox.head? ≠ some .rst := by rw [hh]; intro hc; cases hc
      have hno : desc ≠ 0xA014 → nextCommand s = none := fun hd => by simp only [nextCommand, hi, if_neg hd]
      simp only [fetchMove, decode] at h
      cases hb : decodeBus desc data with
      | error e =>
        rw [hb] at h
        cases h
        refine .malformed _ hr (hno ?_) rfl
        rintro rfl
        cases hb
      | ok i =>
        rw [hb] at h
        simp only at h
        cases i with
        | rd a =>
          have hd : desc ≠ 0xA014 := by rintro rfl; cases hb
          simp only [exec, execRd] at h
          split at h
          · cases h; exact .malformed false hr (hno hd) rfl
          · cases h; exact .read _ hr (hno hd) rfl
        | wr a v =>
          obtain ⟨hdesc, rfl⟩ := desc_of_decodeBus_wr desc data v a hb
          obtain ⟨hcmd, hst, h0, h1, h2⟩ := regAt_writable a
          have hdx : ∀ x : Half, x.toNat = 0xA000 + a.toNat → desc = x := fun x hx =>
            BitVec.eq_of_toNat_eq (by omega)
          simp only [exec, execWr] at h
          cases hreg : regAt a with
          | none =>
            rw [hreg] at h
            cases h
            refine .malformed true hr (hno ?_) rfl
            rintro rfl
            have : a = 0x014 := BitVec.eq_of_toNat_eq (by
                have hx : (0xA014 : Half).toNat = 0xA014 := rfl
                have hy : (0x014 : Addr).toNat = 0x014 := rfl
                omega)
            rw [this] at hreg
            cases hreg
          | some r =>
            rw [hreg] at h
            have hnr : r ≠ .cmd → nextCommand s = none := fun hne => hno (by
              rintro rfl
              have : a = 0x014 := BitVec.eq_of_toNat_eq (by
                have hx : (0xA014 : Half).toNat = 0xA014 := rfl
                have hy : (0x014 : Addr).toNat = 0x014 := rfl
                omega)
              rw [this] at hreg
              exact hne (Option.some.inj hreg.symm))
            cases r with
            | cmd =>
              have hd : desc = 0xA014 := hdx _ (by rw [hcmd hreg]; rfl)
              simp only [writeReg, execCommandWord] at h
              cases hdec : decodeCommand v with
              | ok c =>
                rw [hdec] at h
                refine .command c ?_ ((execCommand_eq_exec c _).symm.trans h)
                simp only [nextCommand, hi, hd, if_true, hdec]
              | error e =>
                rw [hdec] at h
                cases h
                refine .illegal v (by rw [hh, hd]) ?_ rfl
                simp only [nextCommand, hi, hd, if_true, hdec]
            | status =>
              cases h
              exact .clear v (by rw [hh, hdx 0xA010 (by rw [hst hreg]; rfl)]) (hnr (by intro hc; cases hc)) rfl
            | arg0 =>
              cases h
              exact .arg0 v (by rw [hh, hdx 0xA018 (by rw [h0 hreg]; rfl)]) (hnr (by intro hc; cases hc)) rfl
            | arg1 =>
              cases h
              exact .arg1 v (by rw [hh, hdx 0xA01C (by rw [h1 hreg]; rfl)]) (hnr (by intro hc; cases hc)) rfl
            | arg2 =>
              cases h
              exact .arg2 v (by rw [hh, hdx 0xA020 (by rw [h2 hreg]; rfl)]) (hnr (by intro hc; cases hc)) rfl
            | cfg c => cases h; exact .config c v hr (hnr (by intro hc; cases hc)) rfl
            | paramWinN | paramPwmCeil | paramWEnc | res _ | wheel _ _ | poseX | poseY | poseTh | odomVLin | odomVAng
            | nowMs | lastCmdMs => cases h; exact .malformed true hr (hnr (by intro hc; cases hc)) rfl
        | nop | init | tick _ | setSpeed | resetOdom | enableAll | disableAll | getOdom | getWheelStates | wEnable _
        | wDisable _ | wSetTarget _ | wGetState _ | pidReset _ | pidSetCoeffs _ | pidSetRange _ =>
          simp only [decodeBus] at hb
          split at hb
          · cases hb
          · split at hb
            · cases hb
            · split at hb <;> cases hb

/-! The commands. -/

/-- What a command does when no refusal meets it. -/
def CommandEffect (c : Command) (s t : State) : Prop :=
  match c with
  | .nop => t = s
  | .init => t = acceptedInit s
  | .tick dt => t = acceptedTick dt s ∧ dt ≠ 0 ∧ s.status.ready = true
  | .setSpeed =>
    t =
        { setSideTargets (leftSetpoint s.cfg s.arg0 s.arg1) (rightSetpoint s.cfg s.arg0 s.arg1) s with
          lastCmdMs := s.nowMs } ∧
      s.status.ready = true
  | .resetOdom =>
    t =
      onWheels (fun x => { x with distTicks := 0 })
        (s.setOdom { s.odom with poseX := 0, poseY := 0, poseTh := 0 })
  | .enableAll => t = onWheels wheelEnable s ∧ s.status.ready = true
  | .disableAll => t = onWheels wheelDisable s
  | .getOdom => ∃ r, t = s.setRes r
  | .getWheelStates => ∃ r, t = s.setRes r
  | .wEnable w => t = onWheel w wheelEnable s ∧ s.status.ready = true
  | .wDisable w => t = onWheel w wheelDisable s
  | .wSetTarget w => t = onWheel w (wheelSetTarget s.cfg.ticksPerRad s.arg0) s ∧ s.status.ready = true
  | .wGetState _ => ∃ r, t = s.setRes r
  | .pidReset w => t = onWheel w pidReset s ∧ s.status.ready = true
  | .pidSetCoeffs w => t = onWheel w (pidSetCoeffs s.arg0 s.arg1 s.arg2) s ∧ s.status.ready = true
  | .pidSetRange w =>
    t = onWheel w (pidSetRange (u2f s.arg0)) s ∧ s.status.ready = true ∧
      s.arg0.toNat ≤ s.params.pwmCeil.toNat

/-- Every command either meets a refusal, which changes ERR and ECODE only, or has its effect. -/
theorem command_cases (c : Command) (s t : State) (h : exec c.toInstr s = .next t) :
    (∃ code, refusalOf c s = some code ∧ t = refuse code s) ∨ (refusalOf c s = none ∧ CommandEffect c s t) := by
  cases c <;>
    simp only [Command.toInstr, exec, execNop, execResetOdom, execDisableAll, execGetOdom, execWDisable, execInit,
      execTick, execSetSpeed, execEnableAll, execGetWheelStates, execWEnable, execWSetTarget, execWGetState,
      execPidReset, execPidSetCoeffs, execPidSetRange, configUsable] at h <;>
    (obtain rfl := Host.Outcome.next.inj h) <;> clear h <;> simp only [refusalOf, CommandEffect]
  case nop => exact .inr ⟨trivial, trivial⟩
  case resetOdom => simp
  case disableAll => simp
  case wDisable => simp
  case getOdom => right; exact ⟨trivial, _, rfl⟩
  case init =>
    cases hr : s.status.ready
    · rcases Bool.eq_false_or_eq_true
        (f32Gt s.cfg.ticksPerRad 0 && f32Gt s.cfg.wheelRadius 0 && f32Gt s.cfg.wheelSep 0) with hc | hc <;>
        simp only [hc] <;> simp
    · simp
  case tick dt =>
    cases hr : s.status.ready
    · simp
    · by_cases hd : dt = 0
      · subst hd; simp
      · right; simp only [hd]; simp; exact hd
  case setSpeed =>
    cases hr : s.status.ready
    · simp
    · cases hc : (f32IsFinite s.arg0 && f32IsFinite s.arg1) <;> simp
  case enableAll => cases hr : s.status.ready <;> simp
  case getWheelStates => cases hr : s.status.ready <;> simp
  case wEnable => cases hr : s.status.ready <;> simp
  case wSetTarget =>
    cases hr : s.status.ready
    · simp
    · cases hc : (f32IsFinite s.arg0) <;> simp
  case wGetState => cases hr : s.status.ready <;> simp
  case pidReset => cases hr : s.status.ready <;> simp
  case pidSetCoeffs =>
    cases hr : s.status.ready
    · simp
    · cases hc : (f32IsFinite s.arg0 && f32IsFinite s.arg1 && f32IsFinite s.arg2) <;> simp
  case pidSetRange =>
    cases hr : s.status.ready
    · simp
    · by_cases hc : s.params.pwmCeil.toNat < s.arg0.toNat <;> simp [hc]
      omega

end Sys2Proof.Machine
end

