-- ==== Sys2Proof/Tests/Slice0.lean ====
section
/-! SUPPORT. The model's own tests. Expected values stand in spec/95_test_vectors.md under the identifier each comment
gives, computed there for `WIN_N` 4, `PWM_CEIL` 1000 and `W_ENC` 16; the last part shows that the hypotheses of each
statement are met. -/

namespace Sys2Proof.Tests

/-! One theorem at a time: each waits for the kernel, and as many waiting threads as there are theorems do not fit the
sandbox. -/

set_option Elab.async false

open Sys2Proof.Machine

/-- The state after an operation; the machine always answers one. -/
def after (i : Instr) (s : State) : State :=
  match exec i s with
  | .next t => t
  | .fault _ => State.resetWith ⟨0, 0, 0⟩
  | .refused _ => State.resetWith ⟨0, 0, 0⟩

/-- After reset, with the build parameters of the vectors. -/
def bench : State :=
  State.resetWith ⟨4, 1000, 16⟩

/-- The configuration of Boot(500, 0x21) (section 9.0). -/
def configured : State :=
  { bench with
    cfg :=
      { kp := 0xC0000000, ki := 0xBC23D70A, kd := 0, powerLimit := 800, ticksPerRad := 0x42C80000, kt := 0x3F000000,
        wheelRadius := 0x3D800000, wheelSep := 0x3EA8F5C3, angMult := 0x3F800000, cmdTimeout := 500,
        polarity := 0x21 } }

/-- After INIT. -/
def booted : State :=
  after .init configured

/-- A booted machine with given arguments. -/
def withArgs (a b c : Word) : State :=
  { booted with arg0 := a, arg1 := b, arg2 := c }

/-- A booted machine in which wheel 0 is changed. -/
def withWheel (f : Wheel → Wheel) : State :=
  onWheel .fl f booted

/-- A booted machine with one move of an agent to come. -/
def withMove (m : AgentMove) : State :=
  { booted with inbox := [m] }

/-! Well-formedness: the one check, refused and passed. -/

theorem test_misaligned_rd_is_ill_formed : WellFormed (.rd 0x011) = false := by decide

theorem test_misaligned_wr_is_ill_formed : WellFormed (.wr 0x016 5) = false := by decide

theorem test_last_word_is_well_formed : WellFormed (.rd 0xFFC) = true := by decide

/-! Decoding: the words of section 8. -/

theorem test_decode_global_words :
    decodeTableWord 32 0x00000000 = some .nop ∧ decodeTableWord 32 0x00000001 = some .init ∧
      decodeTableWord 32 0x00140002 = some (.tick 20) ∧ decodeTableWord 32 0xFFFF0002 = some (.tick 65535) ∧
      decodeTableWord 32 0x00000003 = some .setSpeed ∧ decodeTableWord 32 0x00000004 = some .resetOdom ∧
      decodeTableWord 32 0x00000005 = some .enableAll ∧ decodeTableWord 32 0x00000006 = some .disableAll ∧
      decodeTableWord 32 0x00000007 = some .getOdom ∧ decodeTableWord 32 0x00000008 = some .getWheelStates := by
  decide

theorem test_decode_wheel_words :
    decodeTableWord 32 0x00000210 = some (.wEnable .rl) ∧ decodeTableWord 32 0x00000111 = some (.wDisable .fr) ∧
      decodeTableWord 32 0x00000312 = some (.wSetTarget .rr) ∧ decodeTableWord 32 0x00000013 = some (.wGetState .fl) ∧
      decodeTableWord 32 0x00000114 = some (.pidReset .fr) ∧ decodeTableWord 32 0x00000215 = some (.pidSetCoeffs .rl) ∧
      decodeTableWord 32 0x00000316 = some (.pidSetRange .rr) := by
  decide

theorem test_decode_bus_words :
    decodeTableWord 16 0x2010 = some (.rd 0x010) ∧ decodeTableWord 16 0x21FC = some (.rd 0x1FC) ∧
      decodeTableWord 16 0xA014 = some (.wr 0x014 0) ∧ decode (.bus 0xA018 0x3F000000) = .ok (.wr 0x018 0x3F000000) := by
  decide

theorem test_illegal_words :
    decodeCommand 0x00000009 = .error .unknownOpcode ∧ decodeCommand 0x000000FF = .error .unknownOpcode ∧
      decodeCommand 0x00000101 = .error .reservedBits ∧ decodeCommand 0x00010003 = .error .reservedBits ∧
      decodeCommand 0x80000008 = .error .reservedBits ∧ decodeCommand 0x00140102 = .error .reservedBits ∧
      decodeCommand 0x00148002 = .error .reservedBits ∧ decodeCommand 0x00000410 = .error .reservedBits ∧
      decodeCommand 0x00010013 = .error .reservedBits ∧ decodeCommand 0x80000316 = .error .reservedBits := by
  decide

theorem test_malformed_descriptors :
    decode (.bus 0x2011 0) = .error .misaligned ∧ decode (.bus 0x1010 0) = .error .badSize ∧
      decode (.bus 0x3010 0) = .error .badSize ∧ decode (.bus 0xB014 1) = .error .badSize := by
  decide

/-! The first step after reset, with a table word placed. -/

theorem test_fetch_command (w : Nat) :
    step (State.reset.withFetchWord 32 w) = exec (.wr 0x014 (BitVec.ofNat 32 w)) State.reset := rfl

theorem test_fetch_bus_read : step (State.reset.withFetchWord 16 0x2010) = exec (.rd 0x010) State.reset := rfl

theorem test_fetch_tick_before_init :
    step (State.reset.withFetchWord 32 0x00140002) = exec (.tick 20) State.reset := rfl

/-! Arithmetic. -/

theorem test_subnormal_kept : f32Mul 0x0DA24260 0x2EDBE6FF = 0x000116C2 := by decide +kernel -- Q17

theorem test_overflow_to_infinity : f32Mul 0x7F61B1E6 0x42C80000 = 0x7F800000 := by decide +kernel -- 1.4

theorem test_i2f_rounds : velocityEstimate 16777217 1000 = 0x4B800000 := by decide +kernel -- W2

theorem test_velocity_third : velocityEstimate 1 3 = 0x43A6AAAB := by decide +kernel -- W2

/-! Accumulator (A1). -/

/-- The pushes of vector A1. -/
def pushesA1 : List Sample :=
  [⟨5, 20⟩, ⟨7, 20⟩, ⟨9, 10⟩, ⟨0xFFFFFFFC, 30⟩, ⟨0, 20⟩, ⟨2, 20⟩]

theorem test_accumulator_a1 :
    (pushAll 3 pushesA1 (Wheel.reset 3, 0, 0)).2 = (0xFFFFFFFE, 70) ∧
      (pushAll 3 pushesA1 (Wheel.reset 3, 0, 0)).1.buf = [⟨0xFFFFFFFC, 30⟩, ⟨0, 20⟩, ⟨2, 20⟩] ∧
      (pushAll 3 pushesA1 (Wheel.reset 3, 0, 0)).1.head = 0 := by
  decide +kernel

/-! Regulator (Q1, Q3, Q5, Q6, Q16). -/

/-- A regulator with given gains, bound and memory. -/
def regulator (kp ki kd limit integ prev : Word) : Wheel :=
  { Wheel.reset 4 with pidKp := kp, pidKi := ki, pidKd := kd, pidLimit := limit, pidInteg := integ, pidPrev := prev }

theorem test_pid_q1 :
    pidOutput (regulator 0x3F000000 0x3C23D70A 0x40000000 0x447A0000 0 0) 0x41200000 20 = 0x41000000 ∧
      (pidAdvance (regulator 0x3F000000 0x3C23D70A 0x40000000 0x447A0000 0 0) 0x41200000 20).pidInteg = 0x43480000 := by
  decide +kernel

theorem test_pid_q3_saturates :
    pidOutput (regulator 0x3F800000 0 0 0x447A0000 0 0) 0xC59C4000 20 = 0xC47A0000 := by decide +kernel

theorem test_pid_q5_negative_zero :
    pidOutput (regulator 0x3F800000 0 0 0 0 0) 0xC1200000 20 = 0x80000000 := by decide +kernel

theorem test_pid_q16_derivative :
    pidOutput (regulator 0 0 0x3F800000 0x447A0000 0 0x42480000) 0x41A00000 20 = 0xBFC00000 := by decide +kernel

/-! Wheel controller (W1, W5). -/

theorem test_delta_wraps :
    tickDelta 16 { Wheel.reset 4 with encPrev := 65535 } 0 = 1 ∧ tickDelta 16 (Wheel.reset 4) 32768 = 0xFFFF8000 ∧
      tickDelta 16 (Wheel.reset 4) 40000 = 0xFFFF9C40 := by
  decide +kernel

theorem test_encoder_polarity : correctedCount 16 { Wheel.reset 4 with encPol := true } 1 = 65535 := by decide +kernel

theorem test_motor_polarity :
    pwrOut (withWheel fun x => { x with power := 0xFFFFFFC9 }) .fl = 55 ∧
      pwrOut (onWheel .rl (fun x => { x with power := 0xFFFFFFC9 }) booted) .rl = 0xFFFFFFC9 := by
  decide +kernel

/-! Kinematics (K3, K4). -/

theorem test_stale_across_the_wrap :
    commandStale { booted with nowMs := 5, lastCmdMs := 0xFFFFFFF0, cfg := { booted.cfg with cmdTimeout := 20 } } = true ∧
      commandStale { booted with nowMs := 5, lastCmdMs := 0xFFFFFFF0, cfg := { booted.cfg with cmdTimeout := 21 } } =
        false := by
  decide +kernel

theorem test_odometry_turn :
    (odometry 20 (onWheel .fl (fun x => { x with velTps := 0x44480000 })
      (onWheel .rl (fun x => { x with velTps := 0x44480000 }) booted))).odom =
      ⟨0x3BA3D70A, 0, 0xBCF83E0F, 0x3E800000, 0xBFC1F07C⟩ := by
  decide +kernel

/-! One or two tests of each operation. -/

theorem test_nop : after .nop booted = booted := by decide +kernel -- E3

theorem test_init_limit_and_polarity : -- W8
    (booted.wheel .rr).pidLimit = 0x44480000 ∧ readReg booted (.wheel .fl .wstate) = 0x4 ∧
      readReg booted (.wheel .fr .wstate) = 0x8 ∧ readReg booted .status = 0x1 := by
  decide +kernel

theorem test_init_refusals : -- E4, E11
    readReg (after .init bench) .status = 0x404 ∧ readReg (after .init booted) .status = 0x305 := by decide +kernel

/-- Wheel 0 of program P1's second tick: previous count 16, the counter at 31. -/
def tickState : State :=
  envSetEncoder .rl 31
    (onWheel .rl
      (fun x =>
        { x with
          en := true
          encPrev := 16
          tickSum := 16
          timeSum := 20
          targetTps := 0x44480000
          distTicks := 16
          count := 1
          buf := [⟨16, 20⟩, ⟨0, 0⟩, ⟨0, 0⟩, ⟨0, 0⟩] })
      { booted with nowMs := 20 })

theorem test_tick_regulates : -- P1, tick 2 (Q18)
    ((after (.tick 20) tickState).wheel .rl).velTps = 0x4441C000 ∧
      ((after (.tick 20) tickState).wheel .rl).power = 55 ∧
      ((after (.tick 20) tickState).wheel .rl).pidInteg = 0xC3FA0000 ∧ (after (.tick 20) tickState).nowMs = 40 := by
  decide +kernel

theorem test_tick_refusals : -- K6, E1, E12
    readReg (after (.tick 20) bench) .status = 0x204 ∧ (after (.tick 20) bench).nowMs = 0 ∧
      readReg (after (.tick 0) booted) .status = 0x505 := by
  decide +kernel

theorem test_set_speed_turns : -- 1.1
    ((after .setSpeed (withArgs 0 0x3F800000 0)).wheel .rl).targetTps = 0xC3840000 ∧
      ((after .setSpeed (withArgs 0 0x3F800000 0)).wheel .fr).targetTps = 0x43840000 := by
  decide +kernel

theorem test_set_speed_refused : -- E13, K2
    readReg (after .setSpeed (withArgs 0x7FC00000 0 0)) .status = 0x605 ∧
      readReg (after .setSpeed (withArgs 0 0xFF800000 0)) .status = 0x605 := by
  decide +kernel

theorem test_reset_odom : -- K7
    ((after .resetOdom (withWheel fun x => { x with distTicks := 16 })).wheel .fl).distTicks = 0 ∧
      (after .resetOdom { booted with odom := ⟨1, 2, 3, 4, 5⟩ }).odom = ⟨0, 0, 0, 4, 5⟩ := by
  decide +kernel

theorem test_enable_all : -- K9
    ((after .enableAll (withWheel fun x => { x with pidInteg := 0x40A00000 })).wheel .fl).pidInteg = 0 ∧
      ((after .enableAll (withWheel fun x => { x with en := true, pidInteg := 0x40A00000 })).wheel .fl).pidInteg =
        0x40A00000 := by
  decide +kernel

theorem test_disable_all : -- K9
    ((after .disableAll (withWheel fun x => { x with en := true, power := 300 })).wheel .fl).power = 0 ∧
      drvEn (after .disableAll (withWheel fun x => { x with en := true })) .fl = false := by
  decide +kernel

theorem test_get_odom : -- R245
    (after .getOdom { bench with odom := ⟨1, 2, 3, 4, 5⟩ }).res[4] = 5 ∧
      (after .getOdom { bench with odom := ⟨1, 2, 3, 4, 5⟩ }).res[0] = 1 := by
  decide +kernel

theorem test_get_wheel_states : -- P4 line 20: wheel 2's distance
    (after .getWheelStates (onWheel .rl (fun x => { x with distTicks := 0xFFFF9C40 }) booted)).res[11] =
      0xC37F5C29 := by
  decide +kernel

theorem test_w_enable : -- W4, E2
    drvEn (after (.wEnable .rr) booted) .rr = true ∧ drvEn (after (.wEnable .rr) booted) .rl = false ∧
      readReg (after (.wEnable .rr) bench) .status = 0x204 := by
  decide +kernel

theorem test_w_disable : -- W4
    pwrOut (after (.wDisable .fl) (withWheel fun x => { x with en := true, power := 512 })) .fl = 0 ∧
      readReg (after (.wDisable .fr) bench) .status = 0 := by
  decide +kernel

theorem test_w_set_target : -- W7, E16
    ((after (.wSetTarget .fl) (withArgs 0x41000000 0 0)).wheel .fl).targetTps = 0x44480000 ∧
      readReg (after (.wSetTarget .fl) (withArgs 0xFF800000 0 0)) .status = 0x605 := by
  decide +kernel

theorem test_w_get_state : -- W6: duty of -55, torque of 1.5
    (after (.wGetState .fl) (withWheel fun x => { x with power := 0xFFFFFFC9 })).res[3] = 0xC0B00000 ∧
      (after (.wGetState .fl) (envSetCurrent .fl 0x3FC00000 booted)).res[2] = 0x3F400000 := by
  decide +kernel

theorem test_nan_torque : -- W6
    (after (.wGetState .fl) (envSetCurrent .fl 0x7FC00000 booted)).res[2] = 0x7FC00000 := by
  decide +kernel

theorem test_pid_reset : -- Q19
    ((after (.pidReset .fl) (withWheel fun x => { x with pidInteg := 0x7F800000, pidPrev := 0xFF800000 })).wheel
      .fl).pidInteg = 0 := by
  decide +kernel

theorem test_pid_set_coeffs : -- Q21, E15
    ((after (.pidSetCoeffs .fl) (withArgs 0x3F000000 0x3C23D70A 0x40000000)).wheel .fl).pidKd = 0x40000000 ∧
      readReg (after (.pidSetCoeffs .rl) (withArgs 0 0 0x7F800000)) .status = 0x605 := by
  decide +kernel

theorem test_pid_set_range : -- Q20, E14
    ((after (.pidSetRange .fl) (withArgs 500 0 0)).wheel .fl).pidLimit = 0x43FA0000 ∧
      readReg (after (.pidSetRange .fl) (withArgs 1001 0 0)) .status = 0x605 := by
  decide +kernel

theorem test_rd : -- B2, B4
    (after (.rd 0x000) booted).busRData = 4 ∧ (after (.rd 0x00C) booted).busRData = 0 ∧
      readReg (after (.rd 0x00C) booted) .status = 0x11 := by
  decide +kernel

theorem test_wr : -- B11, B16, B19, P5 line 20
    readReg (after (.wr 0x200 5) bench) .status = 0x10 ∧ readReg (after (.wr 0x0D8 0xBF800000) bench) .status = 0x704 ∧
      readReg (after (.wr 0x0D8 1) bench) (.cfg .wheelRadius) = 1 ∧
      readReg (after (.wr 0x014 0x09) bench) .status = 0x104 := by
  decide +kernel

/-! The hypotheses of the statements are met: for each one that has any, states and operands that meet them together, at
the boundaries of each clause. -/

theorem witness_DecodeOfEncodeIsTheInstruction :
    WellFormed (.wr 0xFFC 0xFFFFFFFF) = true ∧ WellFormed (.rd 0) = true ∧ WellFormed (.tick 65535) = true := by
  decide

theorem witness_LegalWordsAreExactlyTheEncodings :
    decodeBus 0x2FFC 7 = .ok (.rd 0xFFC) ∧ decodeBus 0xA000 7 = .ok (.wr 0 7) := by decide

theorem witness_IllegalCommandWordsAreRefused :
    decodeCommand 0x00000017 = .error .unknownOpcode ∧ decodeCommand 0x0000000F = .error .unknownOpcode ∧
      decodeCommand 0x80000000 = .error .reservedBits ∧ decodeCommand 0x00000102 = .error .reservedBits ∧
      decodeCommand 0x00000416 = .error .reservedBits := by
  decide

theorem witness_AddressMapIsOneToOne :
    regAt 0x08C = some (.res 19) ∧ regAt 0x1FC = some (.wheel .rr .head) ∧ regAt 0x218 = some .lastCmdMs := by decide +kernel

theorem witness_UnmappedAddressesAreBusErrors :
    regAt 0x00C = none ∧ regAt 0x024 = none ∧ regAt 0x03C = none ∧ regAt 0x090 = none ∧ regAt 0x0BC = none ∧
      regAt 0x0EC = none ∧ regAt 0x0FC = none ∧ regAt 0x21C = none ∧ regAt 0xFFC = none ∧ regAt 0x000 ≠ none := by
  decide

theorem witness_StatusWriteClearsNamedBits :
    (4 : Word).getLsbD 2 = true ∧ (4 : Word).getLsbD 3 = false ∧ (8 : Word).getLsbD 3 = true ∧
      (8 : Word).getLsbD 2 = false ∧ (16 : Word).getLsbD 4 = true ∧ (8 : Word).getLsbD 4 = false := by
  decide

theorem witness_ConfigWritesAreChecked :
    (0xFF : Word).toNat < 2 ^ 8 ∧ ¬(0x100 : Word).toNat < 2 ^ 8 ∧ f32IsFinite 0x7F7FFFFF = true ∧
      f32IsFinite 0x7F800000 = false ∧ f32Gt 0x00000001 0 = true ∧ f32Gt 0x80000000 0 = false := by
  decide +kernel

theorem witness_ReadOnlyWritesAreBusErrors :
    Reg.paramWinN ≠ .cmd ∧ Reg.paramWinN ≠ .status ∧ Reg.paramWinN ≠ .arg0 ∧ Reg.paramWinN ≠ .arg1 ∧
      Reg.paramWinN ≠ .arg2 ∧ ∀ c, Reg.paramWinN ≠ .cfg c := by
  refine ⟨by decide, by decide, by decide, by decide, by decide, fun c => ?_⟩
  cases c <;> decide

theorem witness_StepRunsTheDecodedBusRequest :
    (withMove (.busRequest 0xA018 7)).inbox = [.busRequest 0xA018 7] ∧ decode (.bus 0xA018 7) = .ok (.wr 0x018 7) := by
  decide +kernel

theorem witness_StepRunsAPortTickAsTick : (withMove (.portTick 20)).inbox = [.portTick 20] := rfl

theorem witness_StepRunsACommandWrittenToCmd :
    (withMove (.busRequest 0xA014 0x00000312)).inbox = [.busRequest 0xA014 (encodeCommand (.wSetTarget .rr))] := by
  decide +kernel

theorem witness_MalformedAccessOnlySetsBusErr :
    (withMove (.busRequest 0x1010 0)).inbox = [.busRequest 0x1010 0] ∧ (0x1010 : Half).extractLsb' 12 3 ≠ 0b010 ∧
      (0x2011 : Half).extractLsb' 0 2 ≠ 0b00 ∧ regAt ((0x200C : Half).extractLsb' 0 12) = none ∧
      (0xA200 : Half).getLsbD 15 = true ∧ (regAt ((0xA200 : Half).extractLsb' 0 12)).map regAccess = some .ro := by
  decide +kernel

theorem witness_EnvironmentMovesChangeOnlyTheChannel :
    (withMove (.setEncoder .rr 65536)).inbox = [.setEncoder .rr 65536] ∧
      (withMove (.setCurrent .fl 0x7F800000)).inbox = [.setCurrent .fl 0x7F800000] := by
  decide +kernel

theorem witness_ResetInputResetsTheCoreOnly : (withMove .rst).inbox = [.rst] := rfl

theorem witness_ResetStateRegisters : Reg.status ≠ .paramWinN ∧ Reg.status ≠ .paramPwmCeil ∧ Reg.status ≠ .paramWEnc := by
  decide

theorem witness_InitLoadsEveryWheel :
    configured.status.ready = false ∧ f32Gt configured.cfg.ticksPerRad 0 = true ∧
      f32Gt configured.cfg.wheelRadius 0 = true ∧ f32Gt configured.cfg.wheelSep 0 = true := by
  decide +kernel

theorem witness_TickUpdatesEveryWheel : booted.status.ready = true ∧ (1 : Half) ≠ 0 ∧ (65535 : Half) ≠ 0 := by
  decide +kernel

theorem witness_TickIntegratesThePose :
    booted.status.ready = true ∧ (20 : Half) ≠ 0 ∧ exec (.tick 20) booted = .next (after (.tick 20) booted) :=
  ⟨by decide +kernel, by decide, rfl⟩

theorem witness_SetSpeedWritesTheSideTargets :
    (withArgs 0x7F7FFFFF 0x80000001 0).status.ready = true ∧ f32IsFinite (withArgs 0x7F7FFFFF 0x80000001 0).arg0 = true ∧
      f32IsFinite (withArgs 0x7F7FFFFF 0x80000001 0).arg1 = true := by
  decide +kernel

theorem witness_GetWheelStatesFillsEveryResult :
    booted.status.ready = true ∧ (0 : Fin 20).val = 5 * wheelIndex .fl ∧ (19 : Fin 20).val = 5 * wheelIndex .rr + 4 := by
  decide +kernel

theorem witness_EnableResetsOnlyDisabledWheels :
    booted.status.ready = true ∧ (booted.wheel .fl).en = false ∧
      ((withWheel fun x => { x with en := true }).wheel .fl).en = true := by
  decide +kernel

theorem witness_DisableZeroesPower :
    (Instr.wDisable .fr = .disableAll ∧ (fun w' => decide (w' = WheelId.fr)) = fun _ => true) ∨
      ∃ w, Instr.wDisable .fr = .wDisable w ∧ (fun w' => decide (w' = WheelId.fr)) = fun w' => decide (w' = w) :=
  .inr ⟨.fr, rfl, rfl⟩

theorem witness_WSetTargetWritesOneTarget :
    (withArgs 0x80000000 0 0).status.ready = true ∧ f32IsFinite (withArgs 0x80000000 0 0).arg0 = true := by
  decide +kernel

theorem witness_WGetStateReadsOneWheel : booted.status.ready = true ∧ 5 ≤ (5 : Fin 20).val := by decide +kernel

theorem witness_PidResetClearsOneRegulator : booted.status.ready = true := by decide +kernel

theorem witness_PidSetCoeffsWritesThreeGains :
    (withArgs 0x80000001 0 0x7F7FFFFF).status.ready = true ∧ f32IsFinite (withArgs 0x80000001 0 0x7F7FFFFF).arg0 = true ∧
      f32IsFinite (withArgs 0x80000001 0 0x7F7FFFFF).arg1 = true ∧
      f32IsFinite (withArgs 0x80000001 0 0x7F7FFFFF).arg2 = true := by
  decide +kernel

theorem witness_PidSetRangeWritesOneBound :
    ParamsLegal (withArgs 1000 0 0).params ∧ (withArgs 1000 0 0).status.ready = true ∧
      (withArgs 1000 0 0).arg0.toNat ≤ (withArgs 1000 0 0).params.pwmCeil.toNat ∧
      (withArgs 0 0 0).status.ready = true ∧ (withArgs 0 0 0).arg0.toNat ≤ (withArgs 0 0 0).params.pwmCeil.toNat := by
  unfold ParamsLegal; decide +kernel

theorem witness_RefusedCommandsChangeOnlyErrAndEcode :
    refusalOf .init booted = some .alreadyInit ∧ refusalOf (.tick 0) booted = some .badDt ∧
      refusalOf .init bench = some .badConfig ∧ refusalOf (.pidSetRange .fl) (withArgs 1001 0 0) = some .badArg ∧
      refusalOf (.tick 1) booted = none := by
  decide +kernel

theorem witness_PhaseAdmission :
    bench.status.ready = false ∧ refusalOf .enableAll bench = some .notReady ∧ booted.status.ready = true := by
  decide +kernel

theorem windowShape_reset (winN : Word) (h : 1 ≤ winN.toNat) : WindowShape winN (Wheel.reset winN) := by
  refine ⟨List.length_replicate, Nat.zero_le _, h, fun _ => rfl⟩

theorem witness_AccumulatorConservation :
    WindowShape 1 (Wheel.reset 1) ∧ WindowShape 65536 (Wheel.reset 65536) ∧ (Wheel.reset 65536).count = 0 :=
  ⟨windowShape_reset 1 (by decide), windowShape_reset 65536 (by decide), rfl⟩

theorem witness_TickDeltaIsTheReducedMovement : 2 ≤ (2 : Word).toNat ∧ (2 : Word).toNat ≤ 32 ∧ (32 : Word).toNat ≤ 32 := by
  decide

theorem witness_WheelUpdateRegulates :
    (booted.wheel .fl).en = false ∧
      (wheelUpdate bench.params { Wheel.reset 4 with en := true } 20 0).standstill = true ∧
      (wheelUpdate bench.params { Wheel.reset 4 with en := true } 20 16).standstill = false := by
  decide +kernel

theorem witness_ClampSaturates :
    f32IsNaN 0x447A0000 = false ∧ f32Lt 0x447A0000 0 = false ∧ f32Lt 0 0 = false ∧ f32IsNaN 0x7FC00000 = true ∧
      f32Gt 0x447A0001 0x447A0000 = true ∧ f32Gt 0x447A0000 0x447A0000 = false ∧
      f32Lt 0xC47A0001 (f32Negate 0x447A0000) = true ∧ f32Lt 0xC47A0000 (f32Negate 0x447A0000) = false := by
  decide +kernel

/-- The booted machine has the power invariant, with 800 as every bound. -/
theorem powerInv_booted : PowerInv booted := by
  refine ⟨by unfold ParamsLegal; decide +kernel, fun w => ?_⟩
  cases w <;> exact ⟨by decide +kernel, by decide +kernel, 800, by decide +kernel, by decide +kernel⟩

theorem witness_PidOutputStaysInRange : PowerInv booted := powerInv_booted

/-- Wheel 0 Enabled with both integral terms at infinities of opposite signs: Kp times the error is +infinity, the
integral term -infinity. -/
def nanState : State :=
  { withWheel fun x =>
      { x with en := true, targetTps := 0x7F800000, pidKp := 0xC0000000, pidKi := 0x3F800000 } with
    cfg := { booted.cfg with cmdTimeout := 0xFFFFFFFF } }

/-- The measured wheel 0 of `nanState` in a tick of 20 ms. -/
def nanMeasured : Wheel :=
  wheelMeasure nanState.params (nanState.wheel .fl) 20 0

theorem witness_NaNSumGivesZeroPower :
    nanState.status.ready = true ∧ (20 : Half) ≠ 0 ∧
      ¬nanState.cfg.cmdTimeout < nanState.nowMs + (20 : Half).setWidth 32 - nanState.lastCmdMs ∧
      wheelUpdateNumErr nanState.params (nanState.wheel .fl) 20 (sampleEncCnt nanState .fl) = true := by
  refine ⟨by decide +kernel, by decide, by decide +kernel, ?_⟩
  have hp : pidProportional nanMeasured (wheelError nanMeasured) = 0x7F800000 := by decide +kernel
  have hi : f32Mul nanMeasured.pidKi (pidIntegralNext nanMeasured (wheelError nanMeasured) 20) = 0xFF800000 := by
    decide +kernel
  have hr : regulates nanMeasured = true := by decide +kernel
  have hraw : sampleEncCnt nanState .fl = 0 := by decide +kernel
  have hs : f32Add 0x7F800000 0xFF800000 = f32NaN .add 0x7F800000 0xFF800000 := rfl
  have hn : pidSumIsNaN nanMeasured (wheelError nanMeasured) 20 = true := by
    simp only [pidSumIsNaN, pidSum, hp, hi, hs]
    unfold f32Add f32Sum
    simp only [f32IsNaN_nan, Bool.true_or, if_true]
  rw [hraw]
  show (regulates nanMeasured && pidSumIsNaN nanMeasured (wheelError nanMeasured) 20) = true
  rw [hr, hn]; rfl

theorem witness_VelocityEstimateIsFinite :
    1 ≤ (1 : Word).toNat ∧ 1 ≤ (0xFFFF0000 : Word).toNat ∧ (0xFFFF0000 : Word).toNat ≤ 65535 * 65536 := by decide

/-- A booted machine in mid-drive has the window invariant: wheel 2's window holds a sample. -/
theorem windowInv_tickState : WindowInv tickState := by
  refine ⟨by unfold ParamsLegal; decide +kernel, fun w => ?_⟩
  cases w <;> unfold WindowShape WindowSums <;> decide +kernel

theorem witness_StandstillTickHoldsTheWheel :
    WindowInv (after (.wEnable .fl) tickState) ∧ (after (.wEnable .fl) tickState).status.ready = true ∧
      ((after (.wEnable .fl) tickState).wheel .fl).en = true ∧
      ((after (.tick 20) (after (.wEnable .fl) tickState)).wheel .fl).tickSum = 0 ∧
      f32Eq ((after (.tick 20) (after (.wEnable .fl) tickState)).wheel .fl).targetTps 0 = true := by
  refine ⟨⟨by unfold ParamsLegal; decide +kernel, fun w => ?_⟩, by decide +kernel⟩
  cases w <;> unfold WindowShape WindowSums <;> decide +kernel

theorem witness_SumsRoundToNearestEven :
    f32IsFinite 0x7F7FFFFF = true ∧ f32IsFinite 0x80000001 = true ∧ f32Units 0 + f32Units 0x80000000 = 0 ∧
      f32Units 0x80000000 - f32Units 0 = 0 ∧ f32Units 0xC47A0000 - f32Units 0xC47A0000 = 0 := by
  decide +kernel

theorem witness_ProductsAndQuotientsRoundToNearestEven :
    f32IsFinite 0x7F7FFFFF = true ∧ f32IsFinite 0x00000001 = true ∧ f32Units 0x00000001 ≠ 0 := by decide +kernel

theorem witness_SpecialOperands :
    f32IsNaN 0x7F800001 = true ∧ f32IsInf 0x7F800000 = true ∧ f32IsInf 0xFF800000 = true ∧
      f32IsFinite 0x7F7FFFFF = true ∧ f32Units 0x80000000 = 0 ∧ f32IsNaN 0xFF800000 = false ∧
      f32IsNaN 0x00000001 = false ∧ f32Sign 0xFF800000 = true ∧ f32Sign 0x7F800000 = false := by
  decide +kernel

theorem witness_ConversionsAreExact :
    (0x01000000 : Word).toNat ≤ 2 ^ 24 ∧ (0xFF000000 : Word).toInt.natAbs ≤ 2 ^ 24 ∧ f32IsFinite 0xCF000000 = true ∧
      (f32Units 0xCF000000).tdiv (2 ^ 149) = -(2 ^ 31) := by
  decide +kernel

theorem witness_StepKeepsTheWindowSums : WindowInv tickState ∧ EncoderInv tickState ∧ step tickState = .next tickState :=
  ⟨windowInv_tickState, fun w => by cases w <;> decide +kernel, step_nil _ (by decide +kernel)⟩

theorem witness_StepKeepsThePowerBound : PowerInv booted ∧ step booted = .next booted :=
  ⟨powerInv_booted, step_nil _ (by decide +kernel)⟩

theorem witness_StepKeepsErrorCodeAndConfigurationLegal :
    ErrorCodeCoherent booted.status ∧ ConfigInv booted ∧ step booted = .next booted := by
  refine ⟨by unfold ErrorCodeCoherent; decide +kernel, ⟨fun c => ?_, by decide +kernel⟩, step_nil _ (by decide +kernel)⟩
  cases c <;> decide +kernel

theorem witness_StepKeepsWheelsAtResetUntilInit :
    BeforeInitInv configured ∧ configured.status.ready = false ∧ step configured = .next configured := by
  refine ⟨by unfold BeforeInitInv; decide +kernel, by decide +kernel, step_nil _ (by decide +kernel)⟩

/-- The configured machine with a host write of INIT to come. -/
def initToCome : State :=
  { configured with inbox := [.busRequest 0xA014 0x00000001] }

theorem witness_ReadyIsSetByInitOnly :
    initToCome.status.ready = false ∧ nextCommand initToCome = some .init ∧ refusalOf .init initToCome = none ∧
      step initToCome = .next booted ∧ booted.status.ready = true := by
  refine ⟨by decide +kernel, by decide +kernel, by decide +kernel, rfl, by decide +kernel⟩

theorem witness_RegistersChangeOnlyByTheirRules :
    step (withMove (.busRequest 0xA018 7)) = .next (withArgs 7 0 0) ∧
      (withArgs 7 0 0).arg0 ≠ (withMove (.busRequest 0xA018 7)).arg0 ∧
      (withMove (.busRequest 0xA018 7)).inbox.head? ≠ some .rst ∧
      step (withMove (.portTick 20)) = .next (after (.tick 20) booted) ∧ (after (.tick 20) booted).nowMs ≠ booted.nowMs := by
  refine ⟨rfl, by decide +kernel, by decide +kernel, rfl, by decide +kernel⟩

/-- A wheel with something in its regulator, and a host write of PID_RESET to come. -/
def pidResetToCome : State :=
  { withWheel fun x => { x with pidInteg := 1 } with inbox := [.busRequest 0xA014 0x00000014] }

theorem witness_RegulatorMemoryChangesOnlyWhileRegulating :
    step pidResetToCome = .next (after (.pidReset .fl) { pidResetToCome with inbox := [] }) ∧
      pidResetToCome.inbox.head? ≠ some .rst ∧
      ((after (.pidReset .fl) { pidResetToCome with inbox := [] }).wheel .fl).pidInteg ≠
        (pidResetToCome.wheel .fl).pidInteg := by
  refine ⟨rfl, by decide +kernel, by decide +kernel⟩

/-- The booted machine with wheel 2 changed. -/
def otherWheel : State :=
  onWheel .rl (fun x => { x with velTps := 0x44480000 }) booted

theorem witness_WheelsDoNotReadEachOther :
    (booted.params = otherWheel.params ∧ booted.cfg = otherWheel.cfg ∧ booted.status.ready = otherWheel.status.ready ∧
        booted.arg0 = otherWheel.arg0 ∧ booted.arg1 = otherWheel.arg1 ∧ booted.arg2 = otherWheel.arg2 ∧
        booted.nowMs = otherWheel.nowMs ∧ booted.lastCmdMs = otherWheel.lastCmdMs ∧
        booted.wheel .fl = otherWheel.wheel .fl ∧ booted.channel .fl = otherWheel.channel .fl) ∧
      booted.wheel .rl ≠ otherWheel.wheel .rl ∧
      exec (Command.tick 20).toInstr booted = .next (after (.tick 20) booted) ∧
      exec (Command.tick 20).toInstr otherWheel = .next (after (.tick 20) otherWheel) := by
  refine ⟨by decide +kernel, by decide +kernel, rfl, rfl⟩

end Sys2Proof.Tests
end

section
/-! Rounding to nearest even (spec/00_scope.md R9): the finite magnitudes are the strictly increasing values of the low
31 bits, so the two neighbours of a number decide what it rounds to. -/

namespace Sys2Proof.Machine

/-! The magnitude as a function of the low 31 bits. -/

/-- The exponent field and the fraction run together. -/
def f32Low (x : Word) : Nat :=
  x.toNat % 2 ^ 31

/-- The magnitude that low bits stand for, in units of 2^-149. -/
def lowMag (low : Nat) : Nat :=
  if low / 2 ^ 23 = 0 then low % 2 ^ 23 else (2 ^ 23 + low % 2 ^ 23) * 2 ^ (low / 2 ^ 23 - 1)

/-- The low bits of the infinities, one past those of the largest finite value. -/
def infLow : Nat :=
  0x7F800000

theorem f32Low_pack (neg : Bool) (low : Nat) (h : low < 2 ^ 31) : f32Low (f32Pack neg low) = low := by
  rw [f32Low, f32Pack_toNat neg low h]
  cases neg <;> simp <;> omega

theorem f32Exp_eq_low (x : Word) : f32Exp x = f32Low x / 2 ^ 23 := by
  simp only [f32Exp, f32Low]
  omega

theorem f32Frac_eq_low (x : Word) : f32Frac x = f32Low x % 2 ^ 23 := by
  simp only [f32Frac, f32Low]
  omega

theorem f32Mag_eq_lowMag (x : Word) : f32Mag x = lowMag (f32Low x) := by
  rw [f32Mag, lowMag, f32Exp_eq_low, f32Frac_eq_low]

theorem f32Low_lt (x : Word) : f32Low x < 2 ^ 31 :=
  Nat.mod_lt _ (by decide)

theorem f32IsFinite_iff_low (x : Word) : f32IsFinite x = true ↔ f32Low x < infLow := by
  have hlt := f32Low_lt x
  simp only [f32IsFinite, f32Exp_eq_low, bne_iff_ne, infLow]
  omega

theorem f32Units_pack (neg : Bool) (low : Nat) (h : low < 2 ^ 31) :
    f32Units (f32Pack neg low) = if neg then -(lowMag low : Int) else (lowMag low : Int) := by
  rw [f32Units, f32Sign_pack neg low h, f32Mag_eq_lowMag, f32Low_pack neg low h]

/-- A significand of at most 24 bits at a scale is the magnitude of the low bits that hold both; the significand 2^24
carries into the exponent field. -/
theorem lowMag_scaled (drop kept : Nat) (hle : kept ≤ 2 ^ 24) (hge : drop = 0 ∨ 2 ^ 23 ≤ kept) :
    lowMag (drop * 2 ^ 23 + kept) = kept * 2 ^ drop := by
  rcases Nat.lt_or_ge kept (2 ^ 23) with hsub | hnorm
  · obtain rfl : drop = 0 := by omega
    simp only [lowMag]
    rw [if_pos (by omega)]
    omega
  rcases Nat.lt_or_ge kept (2 ^ 24) with hfit | hcarry
  · have hexp : (drop * 2 ^ 23 + kept) / 2 ^ 23 = drop + 1 := by omega
    have hfrac : 2 ^ 23 + (drop * 2 ^ 23 + kept) % 2 ^ 23 = kept := by omega
    rw [lowMag, hexp, hfrac, if_neg (by omega), Nat.add_sub_cancel]
  · obtain rfl : kept = 2 ^ 24 := by omega
    have hexp : (drop * 2 ^ 23 + 2 ^ 24) / 2 ^ 23 = drop + 2 := by omega
    have hfrac : (drop * 2 ^ 23 + 2 ^ 24) % 2 ^ 23 = 0 := by omega
    rw [lowMag, hexp, hfrac, if_neg (by omega), show drop + 2 - 1 = drop + 1 by omega, pow_succ]
    omega

/-- Neighbouring magnitudes are one unit in the last place apart. -/
theorem lowMag_succ (low : Nat) : lowMag (low + 1) = lowMag low + 2 ^ (low / 2 ^ 23 - 1) := by
  rcases Nat.lt_or_ge low (2 ^ 23) with hsub | hnorm
  · have h := lowMag_scaled 0 low (by omega) (.inl rfl)
    have h' := lowMag_scaled 0 (low + 1) (by omega) (.inl rfl)
    rw [show low / 2 ^ 23 - 1 = 0 by omega]
    simp only [Nat.zero_mul, Nat.zero_add, pow_zero, Nat.mul_one] at h h' ⊢
    omega
  · obtain ⟨drop, frac, hfrac, rfl⟩ : ∃ drop frac, frac < 2 ^ 23 ∧ low = drop * 2 ^ 23 + (2 ^ 23 + frac) :=
      ⟨low / 2 ^ 23 - 1, low % 2 ^ 23, by omega, by omega⟩
    rw [Nat.add_assoc (drop * 2 ^ 23), lowMag_scaled drop _ (by omega) (.inr (by omega)),
      lowMag_scaled drop _ (by omega) (.inr (by omega)),
      show (drop * 2 ^ 23 + (2 ^ 23 + frac)) / 2 ^ 23 - 1 = drop by omega, Nat.add_one_mul]

theorem lowMag_strictMono : StrictMono lowMag :=
  strictMono_nat_of_lt_succ fun low => by
    rw [lowMag_succ]
    exact Nat.lt_add_of_pos_right (Nat.two_pow_pos _)

theorem lowMag_zero : lowMag 0 = 0 := rfl

theorem lowMag_eq_zero_iff (low : Nat) : lowMag low = 0 ↔ low = 0 :=
  lowMag_strictMono.injective.eq_iff' lowMag_zero

theorem lowMag_infLow : lowMag infLow = 2 ^ 24 * 2 ^ 253 := by decide +kernel

theorem lowMag_largest : lowMag (infLow - 1) = (2 ^ 24 - 1) * 2 ^ 253 := by decide +kernel

theorem f32Mag_le_largest {x : Word} (h : f32IsFinite x = true) : f32Mag x ≤ (2 ^ 24 - 1) * 2 ^ 253 := by
  rw [f32Mag_eq_lowMag, ← lowMag_largest]
  exact lowMag_strictMono.monotone (Nat.le_pred_of_lt ((f32IsFinite_iff_low x).mp h))

/-! Rounding. -/

/-- `r` holds the low bits of the neighbour of `num / den` that is nearer, the even one on a tie, where the neighbours are
those with low bits `l` and `l + 1`. -/
structure IsNearerNeighbour (num den l r : Nat) : Prop where
  below : lowMag l * den ≤ num
  above : num < lowMag (l + 1) * den
  nearer : (r = l ∧ 2 * num ≤ lowMag l * den + lowMag (l + 1) * den) ∨
    (r = l + 1 ∧ lowMag l * den + lowMag (l + 1) * den ≤ 2 * num)
  even : 2 * num = lowMag l * den + lowMag (l + 1) * den → r % 2 = 0

/-- What is left of a number after dropping the low bits has at most 24 bits, and exactly 24 if any bit was dropped. -/
theorem kept_bounds (q : Nat) :
    q / 2 ^ (q.log2 - 23) < 2 ^ 24 ∧ (q.log2 - 23 = 0 ∨ 2 ^ 23 ≤ q / 2 ^ (q.log2 - 23)) := by
  have hlt : q < 2 ^ 24 * 2 ^ (q.log2 - 23) := by
    rw [← pow_add]
    exact Nat.lt_of_lt_of_le Nat.lt_log2_self (Nat.pow_le_pow_right (by decide) (by omega))
  refine ⟨(Nat.div_lt_iff_lt_mul (Nat.two_pow_pos _)).mpr hlt, ?_⟩
  rcases Nat.eq_zero_or_pos (q.log2 - 23) with hzero | hpos
  · exact .inl hzero
  · refine .inr ((Nat.le_div_iff_mul_le (Nat.two_pow_pos _)).mpr ?_)
    rw [← pow_add, Nat.add_sub_cancel' (by omega)]
    refine Nat.log2_self_le fun hq => ?_
    simp [hq] at hpos

/-- `f32Round` picks the nearer neighbour, and an infinity past the largest finite value. -/
theorem f32RoundLow_nearer (num den : Nat) (hden : 0 < den) :
    ∃ l r, IsNearerNeighbour num den l r ∧ f32RoundLow num den = min r infLow := by
  obtain ⟨hlt, hge⟩ := kept_bounds (num / den)
  rw [Nat.div_div_eq_div_mul] at hlt hge
  unfold f32RoundLow
  generalize (num / den).log2 - 23 = drop at hlt hge ⊢
  have hmod := Nat.mod_lt num (show den * 2 ^ drop > 0 by positivity)
  have hdiv := Nat.div_add_mod' num (den * 2 ^ drop)
  have hl := lowMag_scaled drop (num / (den * 2 ^ drop)) (by omega) hge
  have hr := lowMag_scaled drop (num / (den * 2 ^ drop) + 1) (by omega) (by omega)
  generalize num / (den * 2 ^ drop) = kept at *
  generalize num % (den * 2 ^ drop) = rest at *
  have hl' : lowMag (drop * 2 ^ 23 + kept) * den = kept * (den * 2 ^ drop) := by rw [hl]; ring
  have hr' : lowMag (drop * 2 ^ 23 + kept + 1) * den = kept * (den * 2 ^ drop) + den * 2 ^ drop := by
    rw [Nat.add_assoc, hr]; ring
  generalize den * 2 ^ drop = unit at *
  refine ⟨drop * 2 ^ 23 + kept, _, ⟨?_, ?_, ?_, ?_⟩, rfl⟩
  · omega
  · omega
  · rw [hl', hr']
    split <;> omega
  · rw [hl', hr']
    split <;> omega

/-- The nearer neighbour is as near as any value outside the gap, and only a tie lets another value be as near. -/
theorem IsNearerNeighbour.nearest {num den l r : Nat} (h : IsNearerNeighbour num den l r) (hden : 0 < den) (u : Int)
    (hu : u ≤ lowMag l ∨ (lowMag (l + 1) : Int) ≤ u) :
    (lowMag r * den - num : Int).natAbs ≤ (u * den - num).natAbs ∧
      ((lowMag r * den - num : Int).natAbs = (u * den - num).natAbs → u ≠ lowMag r → r % 2 = 0) := by
  obtain ⟨below, above, nearer, even⟩ := h
  have hu' : u * den ≤ (lowMag l * den : Nat) ∨ ((lowMag (l + 1) * den : Nat) : Int) ≤ u * den := by
    push_cast
    exact hu.imp (fun h => Int.mul_le_mul_of_nonneg_right h (by omega))
      (fun h => Int.mul_le_mul_of_nonneg_right h (by omega))
  have hne : u ≠ lowMag r → u * den ≠ (lowMag r * den : Nat) := fun h he =>
    h (Int.eq_of_mul_eq_mul_right (Int.natCast_ne_zero.mpr hden.ne') (by exact_mod_cast he))
  rw [show (lowMag r * den : Int) = (lowMag r * den : Nat) by push_cast; rfl]
  generalize u * den = v at *
  refine ⟨?_, fun hdist hdiff => even ?_⟩
  · rcases nearer with ⟨rfl, hle⟩ | ⟨rfl, hle⟩ <;> omega
  · have := hne hdiff
    rcases nearer with ⟨rfl, hle⟩ | ⟨rfl, hle⟩ <;> omega

/-- No value lies strictly between two neighbouring magnitudes. -/
theorem f32Units_not_between (c : Word) (l : Nat) :
    (f32Units c ≤ lowMag l ∨ (lowMag (l + 1) : Int) ≤ f32Units c) ∧
      (-f32Units c ≤ lowMag l ∨ (lowMag (l + 1) : Int) ≤ -f32Units c) := by
  have hmono : f32Mag c ≤ lowMag l ∨ lowMag (l + 1) ≤ f32Mag c := by
    rw [f32Mag_eq_lowMag, lowMag_strictMono.le_iff_le, lowMag_strictMono.le_iff_le]
    omega
  unfold f32Units
  split <;> omega

/-- Below half a unit in the last place above the largest finite value the nearer neighbour is finite, from there on it is
not: the largest finite value is odd, so the tie goes up. -/
theorem IsNearerNeighbour.lt_infLow_iff {num den l r : Nat} (h : IsNearerNeighbour num den l r) :
    r < infLow ↔ num < (2 ^ 25 - 1) * 2 ^ 252 * den := by
  obtain ⟨below, above, nearer, even⟩ := h
  have hmono {i j : Nat} (hij : i ≤ j) : lowMag i * den ≤ lowMag j * den :=
    Nat.mul_le_mul_right den (lowMag_strictMono.monotone hij)
  have hinf : lowMag infLow * den = 2 ^ 24 * 2 ^ 253 * den := by rw [lowMag_infLow]
  have hmax : lowMag (infLow - 1) * den = (2 ^ 24 - 1) * 2 ^ 253 * den := by rw [lowMag_largest]
  have hinfLow : infLow = 0x7F800000 := rfl
  rcases Nat.lt_trichotomy (l + 1) infLow with hlow | htop | hhigh
  · have := hmono (show l + 1 ≤ infLow - 1 by omega)
    omega
  · obtain rfl : l = infLow - 1 := by omega
    rw [htop] at above nearer even
    omega
  · have := hmono (show infLow ≤ l by omega)
    omega

/-- A magnitude in units of 2^-149 with a sign. -/
def signed (neg : Bool) (mag : Nat) : Int :=
  if neg then -(mag : Int) else (mag : Int)

@[simp] theorem signed_natAbs (neg : Bool) (mag : Nat) : (signed neg mag).natAbs = mag := by
  cases neg <;> simp [signed]

@[simp] theorem signed_zero (neg : Bool) : signed neg 0 = 0 := by cases neg <;> rfl

theorem signed_lt_zero_iff (neg : Bool) (mag : Nat) (hpos : 0 < mag) : signed neg mag < 0 ↔ neg = true := by
  cases neg <;> simp [signed, hpos]

theorem signed_mul (neg neg' : Bool) (mag mag' : Nat) :
    signed neg mag * signed neg' mag' = signed (neg != neg') (mag * mag') := by
  cases neg <;> cases neg' <;> simp [signed]

theorem signed_mul_natCast (neg : Bool) (mag k : Nat) : signed neg (mag * k) = signed neg mag * k := by
  cases neg <;> simp [signed]

/-- The sign of a number that is not zero is the unit of its sign. -/
theorem signed_sign (neg : Bool) (mag : Nat) (hpos : 0 < mag) : (signed neg mag).sign = signed neg 1 := by
  have := Int.sign_eq_one_of_pos (Int.natCast_pos.mpr hpos)
  cases neg <;> simp [signed, this]

theorem f32Units_eq_signed (x : Word) : f32Units x = signed (f32Sign x) (f32Mag x) := rfl

/-- The distance to a negative number is that of the negated value to the magnitude. -/
theorem f32Distance_signed (c : Word) (neg : Bool) (num den : Nat) :
    f32Distance c (signed neg num) den = (signed neg 1 * f32Units c * den - num).natAbs := by
  cases neg
  · simp [f32Distance, signed]
  · rw [f32Distance, ← Int.natAbs_neg]
    congr 1
    simp only [signed, if_true]
    push_cast
    ring

/-- The nearer neighbour, where it is finite, is as near to the number as any value, and even on a tie. -/
theorem IsNearerNeighbour.pack_nearest {num den l r : Nat} (h : IsNearerNeighbour num den l r) (hden : 0 < den)
    (hr : r < 2 ^ 31) (neg : Bool) (c : Word) :
    f32Distance (f32Pack neg r) (signed neg num) den ≤ f32Distance c (signed neg num) den ∧
      (f32Distance (f32Pack neg r) (signed neg num) den = f32Distance c (signed neg num) den →
        f32Units c ≠ f32Units (f32Pack neg r) → (f32Pack neg r).toNat % 2 = 0) := by
  have hr_units : signed neg 1 * f32Units (f32Pack neg r) = lowMag r := by
    rw [f32Units_pack neg r hr]
    cases neg <;> simp [signed]
  have hc_units : signed neg 1 * f32Units c ≤ lowMag l ∨ (lowMag (l + 1) : Int) ≤ signed neg 1 * f32Units c := by
    obtain ⟨hpos, hneg⟩ := f32Units_not_between c l
    cases neg
    · simpa [signed] using hpos
    · simpa [signed] using hneg
  have hparity : (f32Pack neg r).toNat % 2 = r % 2 := by
    rw [f32Pack_toNat neg r hr]
    split <;> omega
  have hsign : signed neg 1 ≠ 0 := by cases neg <;> decide
  obtain ⟨hle, htie⟩ := h.nearest hden _ hc_units
  rw [f32Distance_signed, f32Distance_signed, hr_units, hparity]
  exact ⟨hle, fun hd hne => htie hd fun he => hne (Int.eq_of_mul_eq_mul_left hsign (he.trans hr_units.symm))⟩

/-- `f32Round` delivers a finite value exactly where the number is below half a unit in the last place above the largest
finite value. -/
theorem f32IsFinite_round_iff (neg : Bool) (num den : Nat) (hden : 0 < den) :
    f32IsFinite (f32Round neg num den) = true ↔ num < (2 ^ 25 - 1) * 2 ^ 252 * den := by
  obtain ⟨l, r, hnear, hlow⟩ := f32RoundLow_nearer num den hden
  rw [← hnear.lt_infLow_iff, f32IsFinite_iff_low, f32Round_eq, f32Low_pack _ _ (f32RoundLow_lt num den), hlow]
  omega

/-- What `f32Round` delivers is the exact number rounded to nearest, ties to even; a zero may have either sign. -/
theorem f32Round_roundsToNearestEven (neg : Bool) (num den : Nat) (hden : 0 < den) :
    RoundsToNearestEven (f32Round neg num den) (signed neg num) den := by
  have hfinite := f32IsFinite_round_iff neg num den hden
  refine ⟨fun hfin c _ => ?_, fun hinf => ?_, fun hbig => ?_⟩
  · obtain ⟨l, r, hnear, hlow⟩ := f32RoundLow_nearer num den hden
    have hr : r < infLow := hnear.lt_infLow_iff.mpr (hfinite.mp hfin)
    rw [f32Round_eq, hlow, Nat.min_eq_left hr.le]
    exact hnear.pack_nearest hden (Nat.lt_trans hr (by decide)) neg c
  · have hbig : (2 ^ 25 - 1) * 2 ^ 252 * den ≤ num := by
      rw [← Nat.not_lt, ← hfinite, hinf]
      decide
    have hclass := f32_class (f32Round neg num den)
    rw [f32IsNaN_round, hinf] at hclass
    exact ⟨by simpa using hclass, by rw [f32Sign_round, signed_lt_zero_iff _ _ (by omega)],
      by rwa [signed_natAbs]⟩
  · rw [signed_natAbs] at hbig
    rw [Bool.eq_false_iff, Ne, hfinite]
    omega

/-- A number that is some finite value rounds to that value. -/
theorem RoundsToNearestEven.exact {r : Word} {num : Int} (h : RoundsToNearestEven r num 1) {c : Word}
    (hc : f32IsFinite c = true) (hnum : f32Units c = num) : f32Units r = num := by
  obtain ⟨hnear, hover, -⟩ := h
  have hmag : num.natAbs ≤ (2 ^ 24 - 1) * 2 ^ 253 := by
    rw [← hnum, f32Units_eq_signed, signed_natAbs]
    exact f32Mag_le_largest hc
  have hfin : f32IsFinite r = true := by
    by_contra hinf
    obtain ⟨-, -, hbig⟩ := hover (Bool.eq_false_iff.mpr hinf)
    omega
  obtain ⟨hle, -⟩ := hnear hfin c hc
  simp only [f32Distance, Nat.cast_one, mul_one, hnum, sub_self, Int.natAbs_zero] at hle
  omega

/-! Which numbers are values. -/

/-- A significand of at most 24 bits at any scale is a magnitude: shift it left until it has 24 bits or the scale is
used up. -/
theorem exists_lowMag_eq (drop : Nat) : ∀ n : Nat, n ≤ 2 ^ 24 → ∃ low, lowMag low = n * 2 ^ drop := by
  induction drop with
  | zero => exact fun n hn => ⟨_, lowMag_scaled 0 n hn (.inl rfl)⟩
  | succ drop ih =>
    intro n hn
    rcases Nat.lt_or_ge n (2 ^ 23) with hsmall | hlarge
    · obtain ⟨low, hlow⟩ := ih (2 * n) (by omega)
      exact ⟨low, by rw [hlow]; ring⟩
    · exact ⟨_, lowMag_scaled (drop + 1) n hn (.inr hlarge)⟩

/-- Every integer up to 2^24 in size is a finite value. -/
theorem exists_finite_integer (neg : Bool) (n : Nat) (hn : n ≤ 2 ^ 24) :
    ∃ c : Word, f32IsFinite c = true ∧ f32Units c = signed neg (n * 2 ^ 149) := by
  obtain ⟨low, hlow⟩ := exists_lowMag_eq 149 n hn
  have hfin : low < infLow := by
    rw [← lowMag_strictMono.lt_iff_lt, hlow, lowMag_infLow]
    omega
  have hlt : low < 2 ^ 31 := Nat.lt_trans hfin (by decide)
  refine ⟨f32Pack neg low, ?_, ?_⟩
  · rwa [f32IsFinite_iff_low, f32Low_pack neg low hlt]
  · rw [f32Units_pack neg low hlt, hlow, signed]

end Sys2Proof.Machine
end

section
/-! What each arithmetic operation does with each class of operands (spec/00_scope.md R9 to R11). -/

namespace Sys2Proof.Machine

/-! Classes of operands. -/

theorem class_of_finite {x : Word} (h : f32IsFinite x = true) : f32IsNaN x = false ∧ f32IsInf x = false := by
  simpa [h] using f32_class x

theorem class_of_inf {x : Word} (h : f32IsInf x = true) : f32IsNaN x = false ∧ f32IsFinite x = false := by
  simpa [h] using f32_class x

theorem f32IsNaN_of_finite {x : Word} (h : f32IsFinite x = true) : f32IsNaN x = false := (class_of_finite h).left

theorem f32IsInf_of_finite {x : Word} (h : f32IsFinite x = true) : f32IsInf x = false := (class_of_finite h).right

theorem f32IsNaN_of_inf {x : Word} (h : f32IsInf x = true) : f32IsNaN x = false := (class_of_inf h).left

theorem f32IsInf_iff_low (x : Word) : f32IsInf x = true ↔ f32Low x = infLow := by
  have := f32Low_lt x
  simp only [f32IsInf, f32Exp_eq_low, f32Frac_eq_low, infLow, Bool.and_eq_true, beq_iff_eq]
  omega

theorem f32Mag_inf {x : Word} (h : f32IsInf x = true) : f32Mag x = 2 ^ 24 * 2 ^ 253 := by
  rw [f32Mag_eq_lowMag, (f32IsInf_iff_low x).mp h, lowMag_infLow]

theorem f32Units_eq_zero_iff (x : Word) : f32Units x = 0 ↔ f32Mag x = 0 := by
  rw [← Int.natAbs_eq_zero, f32Units_eq_signed, signed_natAbs]

theorem f32_eq_pack (x : Word) : x = f32Pack (f32Sign x) (f32Low x) := by
  apply BitVec.eq_of_toNat_eq
  rw [f32Pack_toNat _ _ (f32Low_lt x), f32Sign, BitVec.msb_eq_decide, f32Low]
  split <;> simp_all <;> omega

theorem f32_eq_zero {x : Word} (h : f32Mag x = 0) : x = f32Zero (f32Sign x) := by
  rw [f32Mag_eq_lowMag, lowMag_eq_zero_iff] at h
  rw [f32Zero, ← h]
  exact f32_eq_pack x

/-! Negation. -/

@[simp] theorem f32Sign_negate (x : Word) : f32Sign (f32Negate x) = !f32Sign x := by
  rw [f32Sign, f32Negate, BitVec.msb_xor, show (0x80000000#32).msb = true from rfl, Bool.xor_true, f32Sign]

@[simp] theorem f32Low_negate (x : Word) : f32Low (f32Negate x) = f32Low x := by
  have hlow (y : Word) : f32Low y = (y.setWidth 31).toNat := rfl
  rw [hlow, hlow, f32Negate, BitVec.setWidth_xor]
  simp

@[simp] theorem f32Mag_negate (x : Word) : f32Mag (f32Negate x) = f32Mag x := by
  simp [f32Mag_eq_lowMag]

@[simp] theorem f32IsNaN_negate (x : Word) : f32IsNaN (f32Negate x) = f32IsNaN x := by
  simp [f32IsNaN, f32Exp_eq_low, f32Frac_eq_low]

@[simp] theorem f32IsInf_negate (x : Word) : f32IsInf (f32Negate x) = f32IsInf x := by
  simp [f32IsInf, f32Exp_eq_low, f32Frac_eq_low]

@[simp] theorem f32IsFinite_negate (x : Word) : f32IsFinite (f32Negate x) = f32IsFinite x := by
  simp [f32IsFinite, f32Exp_eq_low]

@[simp] theorem f32Units_negate (x : Word) : f32Units (f32Negate x) = -f32Units x := by
  cases h : f32Sign x <;> simp [f32Units, h]

/-! Sums. -/

theorem f32Sum_nan (nan a b : Word) (h : f32IsNaN a = true ∨ f32IsNaN b = true) : f32Sum nan a b = nan := by
  rw [f32Sum, if_pos (by simpa using h)]

theorem f32Sum_inf_finite (nan a b : Word) (ha : f32IsInf a = true) (hb : f32IsFinite b = true) :
    f32Sum nan a b = a := by
  simp [f32Sum, ha, f32IsNaN_of_inf ha, f32IsNaN_of_finite hb, f32IsInf_of_finite hb]

theorem f32Sum_finite_inf (nan a b : Word) (ha : f32IsFinite a = true) (hb : f32IsInf b = true) :
    f32Sum nan a b = b := by
  simp [f32Sum, hb, f32IsNaN_of_inf hb, f32IsNaN_of_finite ha, f32IsInf_of_finite ha]

theorem f32Sum_inf_inf (nan a b : Word) (ha : f32IsInf a = true) (hb : f32IsInf b = true) :
    f32Sum nan a b = if f32Sign a = f32Sign b then a else nan := by
  simp [f32Sum, ha, hb, f32IsNaN_of_inf ha, f32IsNaN_of_inf hb]

/-- The sign of a sum of finite values. -/
def sumSign (a b : Word) : Bool :=
  if f32Units a + f32Units b = 0 then f32Sign a && f32Sign b else decide (f32Units a + f32Units b < 0)

theorem f32Round_zero (neg : Bool) : f32Round neg 0 1 = f32Zero neg := by cases neg <;> decide +kernel

theorem f32Sum_finite (nan a b : Word) (ha : f32IsFinite a = true) (hb : f32IsFinite b = true) :
    f32Sum nan a b = f32Round (sumSign a b) (f32Units a + f32Units b).natAbs 1 := by
  simp only [f32Sum, sumSign, f32IsNaN_of_finite ha, f32IsNaN_of_finite hb, f32IsInf_of_finite ha,
    f32IsInf_of_finite hb, Bool.or_self, Bool.false_eq_true, if_false]
  split
  next hzero => rw [hzero, Int.natAbs_zero, f32Round_zero]
  next => rfl

theorem signed_sumSign (a b : Word) :
    signed (sumSign a b) (f32Units a + f32Units b).natAbs = f32Units a + f32Units b := by
  unfold sumSign
  split
  next hzero => rw [hzero, Int.natAbs_zero, signed_zero]
  next hne =>
    by_cases hneg : f32Units a + f32Units b < 0
    · simp only [signed, hneg, decide_true, if_true]
      omega
    · simp only [signed, hneg, decide_false, Bool.false_eq_true, if_false]
      omega

theorem f32Sum_roundsToNearestEven (nan a b : Word) (ha : f32IsFinite a = true) (hb : f32IsFinite b = true) :
    RoundsToNearestEven (f32Sum nan a b) (f32Units a + f32Units b) 1 := by
  have h := f32Round_roundsToNearestEven (sumSign a b) (f32Units a + f32Units b).natAbs 1 Nat.one_pos
  rwa [signed_sumSign, ← f32Sum_finite nan a b ha hb] at h

theorem f32Sum_zero (nan a b : Word) (ha : f32IsFinite a = true) (hb : f32IsFinite b = true)
    (hzero : f32Units a + f32Units b = 0) : f32Sum nan a b = f32Zero (f32Sign a && f32Sign b) := by
  rw [f32Sum_finite nan a b ha hb, sumSign, hzero, if_pos rfl, Int.natAbs_zero, f32Round_zero]

/-! Products. -/

theorem f32IsNaN_mul_nan (a b : Word) (h : f32IsNaN a = true ∨ f32IsNaN b = true) : f32IsNaN (f32Mul a b) = true := by
  rw [f32Mul, if_pos (by simpa using h), f32IsNaN_nan]

theorem f32Mul_finite (a b : Word) (ha : f32IsFinite a = true) (hb : f32IsFinite b = true) :
    f32Mul a b = f32Round (f32Sign a != f32Sign b) (f32Mag a * f32Mag b) (2 ^ 149) := by
  simp [f32Mul, f32IsNaN_of_finite ha, f32IsNaN_of_finite hb, f32IsInf_of_finite ha, f32IsInf_of_finite hb]

theorem f32Mul_inf (a b : Word) (ha : f32IsNaN a = false) (hb : f32IsNaN b = false)
    (h : f32IsInf a = true ∨ f32IsInf b = true) :
    f32Mul a b = if f32Mag a = 0 ∨ f32Mag b = 0 then f32NaN .mul a b else f32Inf (f32Sign a != f32Sign b) := by
  rw [f32Mul, ha, hb]
  rcases h with h | h <;> simp [h]

/-! Quotients. -/

theorem f32IsNaN_div_nan (a b : Word) (h : f32IsNaN a = true ∨ f32IsNaN b = true) : f32IsNaN (f32Div a b) = true := by
  rw [f32Div, if_pos (by simpa using h), f32IsNaN_nan]

theorem f32Div_finite (a b : Word) (ha : f32IsFinite a = true) (hb : f32IsFinite b = true) (hne : f32Mag b ≠ 0) :
    f32Div a b = f32Round (f32Sign a != f32Sign b) (f32Mag a * 2 ^ 149) (f32Mag b) := by
  simp [f32Div, f32IsNaN_of_finite ha, f32IsNaN_of_finite hb, f32IsInf_of_finite ha, f32IsInf_of_finite hb, hne]

theorem f32Div_zero (a b : Word) (ha : f32IsFinite a = true) (hb : f32IsFinite b = true) (hzero : f32Mag b = 0) :
    f32Div a b = if f32Mag a = 0 then f32NaN .div a b else f32Inf (f32Sign a != f32Sign b) := by
  simp [f32Div, f32IsNaN_of_finite ha, f32IsNaN_of_finite hb, f32IsInf_of_finite ha, f32IsInf_of_finite hb, hzero]

theorem f32Div_inf_finite (a b : Word) (ha : f32IsInf a = true) (hb : f32IsFinite b = true) :
    f32Div a b = f32Inf (f32Sign a != f32Sign b) := by
  simp [f32Div, ha, f32IsNaN_of_inf ha, f32IsNaN_of_finite hb, f32IsInf_of_finite hb]

theorem f32Div_finite_inf (a b : Word) (ha : f32IsFinite a = true) (hb : f32IsInf b = true) :
    f32Div a b = f32Zero (f32Sign a != f32Sign b) := by
  simp [f32Div, hb, f32IsNaN_of_inf hb, f32IsNaN_of_finite ha, f32IsInf_of_finite ha]

theorem f32Div_inf_inf (a b : Word) (ha : f32IsInf a = true) (hb : f32IsInf b = true) :
    f32Div a b = f32NaN .div a b := by
  simp [f32Div, ha, hb, f32IsNaN_of_inf ha, f32IsNaN_of_inf hb]

/-! Comparisons. -/

theorem f32Eq_iff (a b : Word) (ha : f32IsNaN a = false) (hb : f32IsNaN b = false) :
    f32Eq a b = true ↔ f32Units a = f32Units b := by
  simp [f32Eq, ha, hb]

theorem f32Lt_iff (a b : Word) (ha : f32IsNaN a = false) (hb : f32IsNaN b = false) :
    f32Lt a b = true ↔ f32Units a < f32Units b := by
  simp [f32Lt, ha, hb]

theorem f32Lt_nan (a b : Word) (h : f32IsNaN a = true ∨ f32IsNaN b = true) : f32Lt a b = false := by
  rcases h with h | h <;> simp [f32Lt, h]

theorem f32Eq_nan (a b : Word) (h : f32IsNaN a = true ∨ f32IsNaN b = true) : f32Eq a b = false := by
  rcases h with h | h <;> simp [f32Eq, h]

/-- An infinity lies beyond every finite value. -/
theorem f32Units_inf_beyond (a b : Word) (ha : f32IsInf a = true) (hb : f32IsFinite b = true) :
    if f32Sign a = true then f32Units a < f32Units b else f32Units b < f32Units a := by
  have hmag := f32Mag_inf ha
  have hle := f32Mag_le_largest hb
  simp only [f32Units]
  split <;> split <;> omega

/-! Conversions. -/

theorem f32Trunc_eq_tdiv (x : Word) : f32Trunc x = (f32Units x).tdiv (2 ^ 149) := by
  unfold f32Trunc f32Units
  split
  · rw [Int.neg_tdiv]
    rfl
  · rfl

theorem signed_msb (v : Word) : signed v.msb v.toInt.natAbs = v.toInt := by
  rw [signed, BitVec.msb_eq_toInt]
  simp only [decide_eq_true_eq]
  split <;> omega

theorem u2f_roundsToNearestEven (v : Word) : RoundsToNearestEven (u2f v) (v.toNat * 2 ^ 149) 1 := by
  have h := f32Round_roundsToNearestEven false (v.toNat * 2 ^ 149) 1 Nat.one_pos
  exact_mod_cast h

theorem i2f_roundsToNearestEven (v : Word) : RoundsToNearestEven (i2f v) (v.toInt * 2 ^ 149) 1 := by
  have h := f32Round_roundsToNearestEven v.msb (v.toInt.natAbs * 2 ^ 149) 1 Nat.one_pos
  rw [signed_mul_natCast, signed_msb] at h
  exact_mod_cast h

theorem f32Units_u2f (v : Word) (h : v.toNat ≤ 2 ^ 24) : f32Units (u2f v) = v.toNat * 2 ^ 149 := by
  obtain ⟨c, hfin, hc⟩ := exists_finite_integer false v.toNat h
  refine (u2f_roundsToNearestEven v).exact hfin (hc.trans ?_)
  simp [signed]

theorem f32Units_i2f (v : Word) (h : v.toInt.natAbs ≤ 2 ^ 24) : f32Units (i2f v) = v.toInt * 2 ^ 149 := by
  obtain ⟨c, hfin, hc⟩ := exists_finite_integer v.msb v.toInt.natAbs h
  refine (i2f_roundsToNearestEven v).exact hfin (hc.trans ?_)
  rw [signed_mul_natCast, signed_msb]
  norm_cast

theorem toInt_f2iTrunc (x : Word) (hfin : f32IsFinite x = true) (hge : -(2 ^ 31) ≤ f32Trunc x)
    (hlt : f32Trunc x < 2 ^ 31) : (f2iTrunc x).toInt = f32Trunc x := by
  rw [f2iTrunc, if_pos ⟨hfin, hge, hlt⟩]
  exact BitVec.toInt_ofInt_eq_self (by decide) hge hlt

end Sys2Proof.Machine
end

section
/-! The statements about the arithmetic (spec/00_scope.md R9 to R11, R13). -/

namespace Sys2Proof.Machine

/-- Of two equal values only -0.0 and +0.0 have the first negative and the second not. -/
theorem negZero_posZero_iff (a b : Word) (h : f32Units a = f32Units b) :
    (a = 0x80000000 ∧ b = 0x00000000) ↔ (f32Sign a && !f32Sign b) = true := by
  constructor
  · rintro ⟨rfl, rfl⟩
    decide
  · intro hsign
    obtain ⟨ha, hb⟩ : f32Sign a = true ∧ f32Sign b = false := by simpa using hsign
    have hmag : f32Mag a = 0 ∧ f32Mag b = 0 := by
      simp only [f32Units, ha, hb, if_true, Bool.false_eq_true, if_false] at h
      omega
    rw [f32_eq_zero hmag.1, f32_eq_zero hmag.2, ha, hb]
    decide

/-- Settles O47: a sum is one rounding of the exact sum, and a difference is the sum with the negated value. -/
theorem sumsRoundToNearestEven : Obligations.SumsRoundToNearestEven := by
  intro a b ha hb
  have hnb : f32IsFinite (f32Negate b) = true := by rwa [f32IsFinite_negate]
  have hdiff : f32Units a + f32Units (f32Negate b) = f32Units a - f32Units b := by
    rw [f32Units_negate, sub_eq_add_neg]
  have hzero_eq (neg : Bool) : f32Zero neg = if neg then 0x80000000 else 0x00000000 := by cases neg <;> rfl
  refine ⟨f32Sum_roundsToNearestEven _ a b ha hb, ?_, fun hzero => ?_, fun hzero => ?_⟩
  · rw [← hdiff]
    exact f32Sum_roundsToNearestEven _ a _ ha hnb
  · rw [f32Add, f32Sum_zero _ a b ha hb hzero, hzero_eq]
  · rw [f32Sub, f32Sum_zero _ a _ ha hnb (hdiff.trans hzero), hzero_eq, f32Sign_negate]
    simp only [negZero_posZero_iff a b (sub_eq_zero.mp hzero)]

/-- Settles O48: each is one rounding of the exact product or quotient, with the exclusive or of the signs. -/
theorem productsAndQuotientsRoundToNearestEven : Obligations.ProductsAndQuotientsRoundToNearestEven := by
  intro a b ha hb
  refine ⟨?_, fun hne => ?_⟩
  · rw [f32Mul_finite a b ha hb, f32Units_eq_signed a, f32Units_eq_signed b, signed_mul]
    exact ⟨f32Round_roundsToNearestEven _ _ _ (by positivity), f32Sign_round _ _ _⟩
  · have hmag : f32Mag b ≠ 0 := mt (f32Units_eq_zero_iff b).mpr hne
    have hquot : f32Units a * 2 ^ 149 * (f32Units b).sign =
        signed (f32Sign a != f32Sign b) (f32Mag a * 2 ^ 149) := by
      rw [f32Units_eq_signed a, f32Units_eq_signed b, signed_sign _ _ (Nat.pos_of_ne_zero hmag), mul_right_comm,
        signed_mul, Nat.mul_one, signed_mul_natCast]
      norm_cast
    rw [f32Div_finite a b ha hb hmag, hquot, f32Units_eq_signed b, signed_natAbs]
    exact ⟨f32Round_roundsToNearestEven _ _ _ (Nat.pos_of_ne_zero hmag), f32Sign_round _ _ _⟩

/-- Settles O49, clause by clause from what each operation does with each class of operands. -/
theorem specialOperands : Obligations.SpecialOperands := by
  intro a b
  refine ⟨fun hnan => ?nan, fun ha hb => ?infFinite, fun ha hb => ?infInf, fun ha hb hzero => ?byZero,
    fun ha hb => ⟨f32Lt_iff a b ha hb, f32Lt_iff b a hb ha, f32Eq_iff a b ha hb⟩, f32Units_inf_beyond a b, by decide⟩
  case nan =>
    refine ⟨?_, ?_, f32IsNaN_mul_nan a b hnan, f32IsNaN_div_nan a b hnan, f32Eq_nan a b hnan, f32Lt_nan a b hnan,
      f32Lt_nan b a hnan.symm⟩
    · rw [f32Add, f32Sum_nan _ a b hnan, f32IsNaN_nan]
    · rw [f32Sub, f32Sum_nan _ a _ (by rwa [f32IsNaN_negate]), f32IsNaN_nan]
  case infFinite =>
    have hna : f32IsInf (f32Negate a) = true := by rwa [f32IsInf_negate]
    have hnb : f32IsFinite (f32Negate b) = true := by rwa [f32IsFinite_negate]
    have hmag : f32Mag a ≠ 0 := by rw [f32Mag_inf ha]; positivity
    have hmul := f32Mul_inf a b (f32IsNaN_of_inf ha) (f32IsNaN_of_finite hb) (.inl ha)
    have hmul' := f32Mul_inf b a (f32IsNaN_of_finite hb) (f32IsNaN_of_inf ha) (.inr ha)
    have hcomm : (f32Sign b != f32Sign a) = (f32Sign a != f32Sign b) := bne_comm
    refine ⟨⟨f32Sum_inf_finite _ a b ha hb, f32Sum_finite_inf _ b a hb ha, f32Sum_inf_finite _ a _ ha hnb,
      f32Sum_finite_inf _ b _ hb hna⟩, ⟨f32Div_inf_finite a b ha hb, ?_⟩, ?_⟩
    · rw [f32Div_finite_inf b a hb ha, hcomm]
    · rw [hmul, hmul', hcomm]
      simp only [f32Units_eq_zero_iff]
      by_cases hzero : f32Mag b = 0 <;> simp [hzero, hmag, f32IsNaN_nan]
  case infInf =>
    have hnb : f32IsInf (f32Negate b) = true := by rwa [f32IsInf_negate]
    refine ⟨?_, ?_, ?_⟩
    · rw [f32Div_inf_inf a b ha hb, f32IsNaN_nan]
    · rw [f32Mul_inf a b (f32IsNaN_of_inf ha) (f32IsNaN_of_inf hb) (.inl ha), f32Mag_inf ha, f32Mag_inf hb,
        if_neg (by decide)]
    · rw [f32Add, f32Sub, f32Sum_inf_inf _ a b ha hb, f32Sum_inf_inf _ a _ ha hnb, f32Sign_negate]
      by_cases hsign : f32Sign a = f32Sign b <;> simp [hsign, f32IsNaN_nan]
  case byZero =>
    rw [f32Div_zero a b ha hb ((f32Units_eq_zero_iff b).mp hzero)]
    simp only [f32Units_eq_zero_iff]
    split
    · exact f32IsNaN_nan _ a b
    · rfl

/-- Settles O50: the integers up to 2^24 in size are values, so rounding leaves them as they are. -/
theorem conversionsAreExact : Obligations.ConversionsAreExact := by
  intro v
  refine ⟨u2f_roundsToNearestEven v, i2f_roundsToNearestEven v, f32Units_u2f v, f32Units_i2f v, ?_⟩
  rw [← f32Trunc_eq_tdiv]
  exact toInt_f2iTrunc v

/-- Settles O60: the zeros are the arguments at which neither function is open. -/
theorem cosineAndSineAtTheZeros : Obligations.CosineAndSineAtTheZeros :=
  ⟨if_pos (.inl rfl), if_pos (.inr rfl), if_pos (.inl rfl), if_pos (.inr rfl)⟩

end Sys2Proof.Machine
end

section
/-! What a step leaves of the state, said once for the statements about every step (spec/10_state.md R60): the reset, an
accepted command, or a step that leaves the core as it is but for a status bit, a written register or a channel. -/

namespace Sys2Proof.Machine

/-! Steps that run no command to acceptance. -/

/-- What a step keeps that is neither the reset nor an accepted command, and where it may write ARG and the encoder
counters. -/
structure QuietStep (s t : State) : Prop where
  params : t.params = s.params
  ready : t.status.ready = s.status.ready
  res : t.res = s.res
  wheels : t.wheels = s.wheels
  nowMs : t.nowMs = s.nowMs
  lastCmdMs : t.lastCmdMs = s.lastCmdMs
  arg0 : t.arg0 = s.arg0 ∨ s.inbox.head? = some (.busRequest 0xA018 t.arg0)
  arg1 : t.arg1 = s.arg1 ∨ s.inbox.head? = some (.busRequest 0xA01C t.arg1)
  arg2 : t.arg2 = s.arg2 ∨ s.inbox.head? = some (.busRequest 0xA020 t.arg2)
  encCnt : ∀ w, (t.channel w).encCnt = (s.channel w).encCnt ∨ ∃ n, (t.channel w).encCnt = truncEnc s.params.wEnc n

/-- A step that only takes the move. -/
theorem QuietStep.of_takeMove (s : State) : QuietStep s (takeMove s) where
  params := rfl
  ready := rfl
  res := rfl
  wheels := rfl
  nowMs := rfl
  lastCmdMs := rfl
  arg0 := .inl rfl
  arg1 := .inl rfl
  arg2 := .inl rfl
  encCnt _ := .inl rfl

/-- A step that changes STATUS, but not READY, the configuration registers and the read data only. -/
theorem QuietStep.of_status_cfg_busRData {s : State} (x : Status) (y : Cfg) (v : Word)
    (hready : x.ready = s.status.ready) :
    QuietStep s { takeMove s with status := x, cfg := y, busRData := v } :=
  { QuietStep.of_takeMove s with ready := hready }

theorem QuietStep.of_refuse (s : State) (code : RefusalCode) : QuietStep s (refuse code (takeMove s)) :=
  .of_status_cfg_busRData { s.status with err := true, ecode := ecodeOf code } s.cfg s.busRData rfl

theorem QuietStep.of_writeCfg (s : State) (c : CfgReg) (v : Word) : QuietStep s (writeCfg c v (takeMove s)) := by
  obtain ⟨-, h⟩ | ⟨-, h⟩ := writeCfg_cases c v (takeMove s) <;> rw [h]
  · exact .of_status_cfg_busRData s.status (cfgWrite s.cfg c v) s.busRData rfl
  · exact .of_refuse s .badCfgWrite

theorem QuietStep.of_malformedAccess (s : State) (write : Bool) : QuietStep s (malformedAccess write (takeMove s)) := by
  cases write
  · exact .of_status_cfg_busRData { s.status with busErr := true } s.cfg 0 rfl
  · exact .of_status_cfg_busRData { s.status with busErr := true } s.cfg s.busRData rfl

/-- A step that changes the channels only, an encoder counter to a count of W_ENC bits. -/
theorem QuietStep.of_channels {s : State} (p : PerWheel Channel)
    (hp : ∀ w, (p.get w).encCnt = (s.channel w).encCnt ∨ ∃ n, (p.get w).encCnt = truncEnc s.params.wEnc n) :
    QuietStep s { takeMove s with channels := p } :=
  { QuietStep.of_takeMove s with encCnt := hp }

theorem QuietStep.of_envSetEncoder (s : State) (w : WheelId) (n : Word) :
    QuietStep s (envSetEncoder w n (takeMove s)) := by
  refine .of_channels (s.channels.set w _) fun w' => ?_
  rw [PerWheel.get_set]
  split
  · exact .inr ⟨n, rfl⟩
  · exact .inl rfl

theorem QuietStep.of_envSetCurrent (s : State) (w : WheelId) (x : Word) :
    QuietStep s (envSetCurrent w x (takeMove s)) := by
  refine .of_channels (s.channels.set w _) fun w' => .inl ?_
  rw [PerWheel.get_set]
  split
  next h => rw [h]; rfl
  next => rfl

/-- What decides whether a command is refused is no agent's pending move. -/
@[simp] theorem refusalOf_takeMove (c : Command) (s : State) : refusalOf c (takeMove s) = refusalOf c s := by
  cases c <;> rfl

/-- A reset is no command. -/
theorem nextCommand_rst {s : State} (h : s.inbox.head? = some .rst) : nextCommand s = none := by
  obtain ⟨ms, hms⟩ := List.head?_eq_some_iff.mp h
  simp only [nextCommand, hms]

/-- The three kinds of step. -/
inductive StepEffect (s t : State) : Prop where
  /-- the reset input -/
  | reset (h : s.inbox.head? = some .rst) (ht : t = coreReset (takeMove s))
  /-- a command that no refusal meets -/
  | accepted (c : Command) (h : nextCommand s = some c) (hr : refusalOf c s = none)
      (he : CommandEffect c (takeMove s) t)
  /-- anything else: a refused command, another write, a read, a malformed access, a move of the environment or none -/
  | quiet (h : s.inbox.head? ≠ some .rst) (hn : ∀ c, nextCommand s = some c → refusalOf c s ≠ none)
      (hq : QuietStep s t)

/-- Every step is of one of the three kinds. -/
theorem step_effect {s t : State} (hstep : step s = .next t) : StepEffect s t := by
  have quiet (m : AgentMove) (hm : s.inbox.head? = some m) (hne : m ≠ .rst) (hn : nextCommand s = none)
      (hq : QuietStep s t) : StepEffect s t :=
    .quiet (by rw [hm]; simpa using hne) (by simp [hn]) hq
  cases step_cases s t hstep with
  | reset h ht => exact .reset h ht
  | command c h ht =>
    obtain ⟨code, hr, rfl⟩ | ⟨hr, he⟩ := command_cases c _ t ht <;> rw [refusalOf_takeMove] at hr
    · refine .quiet (fun hrst => ?_) (fun c' hc' => ?_) (.of_refuse s code)
      · simp [nextCommand_rst hrst] at h
      · obtain rfl := Option.some.inj (h.symm.trans hc')
        simp [hr]
    · exact .accepted c h hr he
  | idle h ht =>
    subst ht
    refine .quiet (by simp [h]) (by simp [nextCommand, h]) ?_
    exact ⟨rfl, rfl, rfl, rfl, rfl, rfl, .inl rfl, .inl rfl, .inl rfl, fun _ => .inl rfl⟩
  | illegal v h hn ht => exact quiet _ h (by simp) hn (ht ▸ .of_refuse s .illegalCmd)
  | clear v h hn ht =>
    exact quiet _ h (by simp) hn (ht ▸ .of_status_cfg_busRData (clearedStatus v s.status) s.cfg s.busRData rfl)
  | arg0 v h hn ht => exact quiet _ h (by simp) hn (ht ▸ { QuietStep.of_takeMove s with arg0 := .inr h })
  | arg1 v h hn ht => exact quiet _ h (by simp) hn (ht ▸ { QuietStep.of_takeMove s with arg1 := .inr h })
  | arg2 v h hn ht => exact quiet _ h (by simp) hn (ht ▸ { QuietStep.of_takeMove s with arg2 := .inr h })
  | config c v h hn ht => exact .quiet h (by simp [hn]) (ht ▸ .of_writeCfg s c v)
  | read r h hn ht => exact .quiet h (by simp [hn]) (ht ▸ .of_status_cfg_busRData s.status s.cfg _ rfl)
  | malformed write h hn ht => exact .quiet h (by simp [hn]) (ht ▸ .of_malformedAccess s write)
  | encoder w n h hn ht => exact quiet _ h (by simp) hn (ht ▸ .of_envSetEncoder s w n)
  | current w x h hn ht => exact quiet _ h (by simp) hn (ht ▸ .of_envSetCurrent s w x)

/-! Accepted commands. -/

/-- What an accepted command leaves of the registers outside the wheels, and which command writes which. -/
structure CommandFrame (c : Command) (s t : State) : Prop where
  params : t.params = s.params
  ready : t.status.ready = (s.status.ready || decide (c = .init))
  arg0 : t.arg0 = s.arg0
  arg1 : t.arg1 = s.arg1
  arg2 : t.arg2 = s.arg2
  res : t.res = s.res ∨ writesResults c = true
  nowMs : t.nowMs = s.nowMs ∨ ∃ dt, c = .tick dt ∧ t.nowMs = s.nowMs + zext16 dt
  lastCmdMs : t.lastCmdMs = s.lastCmdMs ∨ c = .setSpeed ∧ t.lastCmdMs = s.nowMs

theorem CommandEffect.frame {c : Command} {s t : State} (h : CommandEffect c s t) : CommandFrame c s t := by
  cases c with
  | nop | resetOdom | disableAll | wDisable => subst h; constructor <;> simp
  | init => rw [h, acceptedInit_eq]; constructor <;> simp
  | tick dt => obtain ⟨rfl, -⟩ := h; rw [acceptedTick_eq]; constructor <;> simp
  | getOdom | getWheelStates | wGetState => obtain ⟨r, rfl⟩ := h; constructor <;> simp [writesResults]
  | setSpeed | enableAll | wEnable | wSetTarget | pidReset | pidSetCoeffs | pidSetRange =>
    obtain ⟨rfl, -⟩ := h; constructor <;> simp

/-- No step changes the parameters. -/
theorem StepEffect.params {s t : State} (h : StepEffect s t) : t.params = s.params := by
  cases h with
  | reset _ ht => rw [ht]; rfl
  | accepted c _ _ he => exact he.frame.params
  | quiet _ _ hq => exact hq.params

end Sys2Proof.Machine
end

section
/-! The whole-machine rules of spec/10_state.md: the layout of STATUS and WSTATE, and which operations write READY and the
shared registers. -/

namespace Sys2Proof.Machine

/-! Layout (R34, R45). -/

/-- The lowest bit of a word of flags, and the bits above it. -/
theorem testBit_flagBit_add (b : Bool) (n k : Nat) :
    (flagBit b + 2 * n).testBit k = if k = 0 then b else n.testBit (k - 1) := by
  have hbit : flagBit b + 2 * n = Nat.bit b n := by cases b <;> simp [flagBit, Nat.bit_val, Nat.add_comm]
  rw [hbit]
  cases k with
  | zero => simp
  | succ k => simp [Nat.testBit_bit_succ]

theorem getLsbD_statusWord (x : Status) (k : Nat) :
    (statusWord x).getLsbD k =
      if k = 0 then x.ready else if k = 1 then x.timeout else if k = 2 then x.err else if k = 3 then x.numErr
      else if k = 4 then x.busErr else if 8 ≤ k then x.ecode.getLsbD (k - 8) else false := by
  have hflags : flagBit x.ready + flagBit x.timeout * 2 + flagBit x.err * 2 ^ 2 + flagBit x.numErr * 2 ^ 3 +
      flagBit x.busErr * 2 ^ 4 + x.ecode.toNat * 2 ^ 8 =
      flagBit x.ready + 2 * (flagBit x.timeout + 2 * (flagBit x.err + 2 * (flagBit x.numErr + 2 * (flagBit x.busErr +
        2 * (x.ecode.toNat * 2 ^ 3))))) := by ring
  rw [statusWord, BitVec.getLsbD_ofNat, hflags]
  simp only [testBit_flagBit_add, Nat.testBit_mul_two_pow, BitVec.testBit_toNat]
  match k with
  | 0 | 1 | 2 | 3 | 4 => simp
  | k + 5 =>
    have hhigh : 32 ≤ k + 5 → x.ecode.getLsbD (k - 3) = false := fun h => BitVec.getLsbD_of_ge _ _ (by omega)
    by_cases hk : k + 5 < 32
    · simp [hk]
    · simp [hk, hhigh (by omega)]

theorem getLsbD_wstateWord (x : Wheel) (k : Nat) :
    (wstateWord x).getLsbD k =
      if k = 0 then x.en else if k = 1 then x.standstill else if k = 2 then x.motPol else if k = 3 then x.encPol
      else false := by
  have hflags : flagBit x.en + flagBit x.standstill * 2 + flagBit x.motPol * 2 ^ 2 + flagBit x.encPol * 2 ^ 3 =
      flagBit x.en + 2 * (flagBit x.standstill + 2 * (flagBit x.motPol + 2 * (flagBit x.encPol + 2 * 0))) := by ring
  rw [wstateWord, BitVec.getLsbD_ofNat, hflags]
  simp only [testBit_flagBit_add, Nat.zero_testBit]
  match k with
  | 0 | 1 | 2 | 3 | _ + 4 => simp

/-- Settles O8: each flag is a digit of the word read. -/
theorem statusAndWheelStateLayout : Obligations.StatusAndWheelStateLayout :=
  fun s w k => ⟨getLsbD_statusWord s.status k, getLsbD_wstateWord (s.wheel w) k⟩

/-! READY (R35). -/

/-- Settles O56, by the kind of step. -/
theorem readyIsSetByInitOnly : Obligations.ReadyIsSetByInitOnly := by
  intro s t hstep
  cases step_effect hstep with
  | reset h ht =>
    have hready : t.status.ready = false := by rw [ht]; rfl
    simp [hready, h, nextCommand_rst h]
  | accepted c h hr he =>
    have hrst : s.inbox.head? ≠ some .rst := fun hrst => by simp [nextCommand_rst hrst] at h
    have hready : t.status.ready = (s.status.ready || decide (c = .init)) := he.frame.ready
    refine ⟨fun hs => ?_, fun hs => by simp [hready, hs, hrst]⟩
    rw [hready, hs, h, Bool.false_or, decide_eq_true_eq, Option.some_inj]
    exact ⟨fun hc => ⟨hc, hc ▸ hr⟩, And.left⟩
  | quiet h hn hq =>
    refine ⟨fun hs => ?_, fun hs => by simp [hq.ready, hs, h]⟩
    simp only [hq.ready, hs, Bool.false_eq_true, false_iff, not_and]
    exact hn .init

/-! PARAM, RES, ARG, NOW_MS and LAST_CMD_MS (R31, R32, R40, R55). -/

theorem zext16_eq_setWidth (dt : Half) : zext16 dt = dt.setWidth 32 :=
  BitVec.eq_of_toNat_eq (by simp [zext16])

/-- Settles O57, by the kind of step. -/
theorem registersChangeOnlyByTheirRules : Obligations.RegistersChangeOnlyByTheirRules := by
  intro s t hstep
  have heffect := step_effect hstep
  refine ⟨heffect.params, fun hrst => ?_⟩
  cases heffect with
  | reset h ht => exact absurd h hrst
  | accepted c h hr he =>
    obtain ⟨-, -, harg0, harg1, harg2, hres, hnow, hlast⟩ := he.frame
    refine ⟨fun hne => ⟨c, h, hres.resolve_left hne⟩, (absurd harg0 ·), (absurd harg1 ·), (absurd harg2 ·),
      fun hne => ?_, fun hne => ?_⟩
    · obtain ⟨dt, rfl, htick⟩ := hnow.resolve_left hne
      exact ⟨dt, h, hr, by rw [← zext16_eq_setWidth]; exact htick⟩
    · obtain ⟨rfl, hset⟩ := hlast.resolve_left hne
      exact ⟨h, hr, hset⟩
  | quiet _ _ hq =>
    exact ⟨(absurd hq.res ·), fun hne => ⟨_, hq.arg0.resolve_left hne, rfl⟩,
      fun hne => ⟨_, hq.arg1.resolve_left hne, rfl⟩, fun hne => ⟨_, hq.arg2.resolve_left hne, rfl⟩,
      (absurd hq.nowMs ·), (absurd hq.lastCmdMs ·)⟩

end Sys2Proof.Machine
end

section
/-! What a step does to one wheel, and the induction over it: a property of a wheel that the reset and every operation on
a wheel keep is kept by every step (spec/10_state.md R60). -/

namespace Sys2Proof.Machine

/-- What an accepted command makes of a wheel. -/
def wheelAfter (c : Command) (s : State) (w : WheelId) : Wheel :=
  match c with
  | .nop | .getOdom | .getWheelStates | .wGetState _ => s.wheel w
  | .init => wheelInit s w (initLimit s) (s.wheel w)
  | .tick dt => wheelUpdate s.params (tickInput dt s w) dt (sampleEncCnt s w)
  | .setSpeed =>
    wheelSetTarget s.cfg.ticksPerRad
      (if w = .fl ∨ w = .rl then leftSetpoint s.cfg s.arg0 s.arg1 else rightSetpoint s.cfg s.arg0 s.arg1) (s.wheel w)
  | .resetOdom => { s.wheel w with distTicks := 0 }
  | .enableAll => wheelEnable (s.wheel w)
  | .disableAll => wheelDisable (s.wheel w)
  | .wEnable v => if w = v then wheelEnable (s.wheel w) else s.wheel w
  | .wDisable v => if w = v then wheelDisable (s.wheel w) else s.wheel w
  | .wSetTarget v => if w = v then wheelSetTarget s.cfg.ticksPerRad s.arg0 (s.wheel w) else s.wheel w
  | .pidReset v => if w = v then pidReset (s.wheel w) else s.wheel w
  | .pidSetCoeffs v => if w = v then pidSetCoeffs s.arg0 s.arg1 s.arg2 (s.wheel w) else s.wheel w
  | .pidSetRange v => if w = v then pidSetRange (u2f s.arg0) (s.wheel w) else s.wheel w

theorem onWheel_wheel_eq (v w : WheelId) (f : Wheel → Wheel) (s : State) :
    (onWheel v f s).wheel w = if w = v then f (s.wheel w) else s.wheel w := by
  rw [onWheel_wheel]
  split
  next h => rw [h]
  next => rfl

theorem CommandEffect.wheel_eq {c : Command} {s t : State} (h : CommandEffect c s t) (w : WheelId) :
    t.wheel w = wheelAfter c s w := by
  cases c with
  | nop => subst h; rfl
  | resetOdom | disableAll => subst h; simp [wheelAfter]
  | getOdom | getWheelStates | wGetState => obtain ⟨r, rfl⟩ := h; rfl
  | init => rw [h, acceptedInit_wheel]; rfl
  | tick dt => rw [h.left, acceptedTick_wheel]; rfl
  | setSpeed => rw [h.left]; exact setSideTargets_wheel _ _ s w
  | enableAll => rw [h.left]; exact onWheels_wheel _ s w
  | wDisable v => rw [h]; exact onWheel_wheel_eq v w _ s
  | wEnable v | wSetTarget v | pidReset v | pidSetCoeffs v | pidSetRange v =>
    rw [h.left]
    exact onWheel_wheel_eq v w _ s

/-- AccPush changes the window only. -/
theorem accPush_keeps (winN : Word) (x : Wheel) (smp : Sample) :
    (accPush winN x smp).1.en = x.en ∧ (accPush winN x smp).1.power = x.power ∧
      (accPush winN x smp).1.pidLimit = x.pidLimit ∧ (accPush winN x smp).1.pidInteg = x.pidInteg ∧
      (accPush winN x smp).1.pidPrev = x.pidPrev ∧ (accPush winN x smp).1.encPrev = x.encPrev := by
  obtain ⟨-, h⟩ | ⟨-, h⟩ := accPush_cases winN x smp <;> rw [h] <;> exact ⟨rfl, rfl, rfl, rfl, rfl, rfl⟩

/-- The measuring part of a tick moves neither EN nor the power nor the regulator. -/
theorem wheelMeasure_keeps (p : Params) (x : Wheel) (dt : Half) (raw : Word) :
    (wheelMeasure p x dt raw).en = x.en ∧ (wheelMeasure p x dt raw).power = x.power ∧
      (wheelMeasure p x dt raw).pidLimit = x.pidLimit ∧ (wheelMeasure p x dt raw).pidInteg = x.pidInteg ∧
      (wheelMeasure p x dt raw).pidPrev = x.pidPrev := by
  simp only [wheelMeasure, wheelPush, accPush_keeps, and_self]

/-- The reset leaves every wheel at its reset values. -/
theorem coreReset_wheel (s : State) (w : WheelId) : (coreReset s).wheel w = Wheel.reset s.params.winN := by
  cases w <;> rfl

/-- A regulator's bound is that of an integer within `PWM_CEIL`. -/
def LimitWithinCeil (p : Params) (limit : Word) : Prop :=
  ∃ n : Word, n.toNat ≤ p.pwmCeil.toNat ∧ limit = u2f n

theorem limitWithinCeil_initLimit (s : State) : LimitWithinCeil s.params (initLimit s) := by
  refine ⟨_, ?_, rfl⟩
  split <;> omega

/-- Every operation on a wheel keeps the property, with any operands the operation can be given. -/
structure KeptByOperations (P : Params → Wheel → Prop) : Prop where
  reset : ∀ {p x}, P p x → P p (Wheel.reset p.winN)
  init : ∀ {s : State} {x} (w : WheelId) {limit : Word}, LimitWithinCeil s.params limit → P s.params x →
    P s.params (wheelInit s w limit x)
  update : ∀ {p x} {dt : Half} (count : Word), dt ≠ 0 → P p x → P p (wheelUpdate p x dt (truncEnc p.wEnc count))
  target : ∀ {p x} (v : Word), P p x → P p { x with targetTps := v }
  distance : ∀ {p x}, P p x → P p { x with distTicks := 0 }
  enable : ∀ {p x}, P p x → P p (wheelEnable x)
  disable : ∀ {p x}, P p x → P p (wheelDisable x)
  pidReset : ∀ {p x}, P p x → P p (pidReset x)
  coeffs : ∀ {p x} (kp ki kd : Word), P p x → P p (pidSetCoeffs kp ki kd x)
  range : ∀ {p x} {limit : Word}, LimitWithinCeil p limit → P p x → P p (pidSetRange limit x)

/-- What every operation on a wheel keeps, an accepted command keeps of every wheel. -/
theorem KeptByOperations.command {P : Params → Wheel → Prop} (hP : KeptByOperations P) {c : Command} {s t : State}
    (he : CommandEffect c s t) (w : WheelId) (h : P s.params (s.wheel w)) : P s.params (t.wheel w) := by
  have onOne {v : WheelId} {y : Wheel} (hy : P s.params y) : P s.params (if w = v then y else s.wheel w) := by
    split
    · exact hy
    · exact h
  rw [he.wheel_eq w]
  cases c with
  | nop | getOdom | getWheelStates | wGetState => exact h
  | init => exact hP.init w (limitWithinCeil_initLimit s) h
  | tick dt =>
    obtain ⟨-, hdt, -⟩ := he
    exact hP.update _ hdt (hP.target _ h)
  | setSpeed => exact hP.target _ h
  | resetOdom => exact hP.distance h
  | enableAll => exact hP.enable h
  | disableAll => exact hP.disable h
  | wEnable => exact onOne (hP.enable h)
  | wDisable => exact onOne (hP.disable h)
  | wSetTarget => exact onOne (hP.target _ h)
  | pidReset => exact onOne (hP.pidReset h)
  | pidSetCoeffs => exact onOne (hP.coeffs _ _ _ h)
  | pidSetRange =>
    obtain ⟨-, -, hle⟩ := he
    exact onOne (hP.range ⟨s.arg0, hle, rfl⟩ h)

/-- What every operation on a wheel keeps, every step keeps. -/
theorem KeptByOperations.step {P : Params → Wheel → Prop} (hP : KeptByOperations P) {s t : State}
    (hstep : step s = .next t) (w : WheelId) (h : P s.params (s.wheel w)) : P t.params (t.wheel w) := by
  have heffect := step_effect hstep
  rw [heffect.params]
  cases heffect with
  | reset _ ht =>
    rw [ht, coreReset_wheel]
    exact hP.reset h
  | accepted c _ _ he => exact hP.command he w h
  | quiet _ _ hq =>
    rw [State.wheel, hq.wheels]
    exact h

end Sys2Proof.Machine
end

section
/-! When a regulator's memory changes (spec/10_state.md R60, spec/41_pid.md R170). -/

namespace Sys2Proof.Machine

/-- A regulator's memory: the integral and the previous error (spec/10_state.md R53). -/
def pidMemory (x : Wheel) : Word × Word :=
  (x.pidInteg, x.pidPrev)

@[simp] theorem pidMemory_wheelDisable (x : Wheel) : pidMemory (wheelDisable x) = pidMemory x := by
  simp only [pidMemory, wheelDisable]

@[simp] theorem pidMemory_wheelSetTarget (ticksPerRad v : Word) (x : Wheel) :
    pidMemory (wheelSetTarget ticksPerRad v x) = pidMemory x := by
  simp only [pidMemory, wheelSetTarget]

@[simp] theorem pidMemory_pidSetCoeffs (kp ki kd : Word) (x : Wheel) :
    pidMemory (pidSetCoeffs kp ki kd x) = pidMemory x := by
  simp only [pidMemory, pidSetCoeffs]

@[simp] theorem pidMemory_pidSetRange (limit : Word) (x : Wheel) :
    pidMemory (pidSetRange limit x) = pidMemory x := by
  simp only [pidMemory, pidSetRange]

/-- A tick leaves the memory of a Disabled wheel, and zeroes that of an Enabled one at Standstill. -/
theorem pidMemory_wheelUpdate (p : Params) (x : Wheel) (dt : Half) (raw : Word) :
    (x.en = false ∧ pidMemory (wheelUpdate p x dt raw) = pidMemory x) ∨
      (x.en = true ∧ ((wheelUpdate p x dt raw).standstill = true → pidMemory (wheelUpdate p x dt raw) = (0, 0))) := by
  obtain ⟨hen, -, -, hinteg, hprev⟩ := wheelMeasure_keeps p x dt raw
  have hmem : pidMemory (wheelMeasure p x dt raw) = pidMemory x := by rw [pidMemory, hinteg, hprev, pidMemory]
  rw [wheelUpdate, ← hen, ← hmem]
  obtain ⟨hen, h⟩ | ⟨hen, -, h⟩ | ⟨hen, hmoving, h⟩ := wheelRegulate_cases (wheelMeasure p x dt raw) dt <;> rw [h]
  · exact .inl ⟨hen, rfl⟩
  · exact .inr ⟨hen, fun _ => rfl⟩
  · exact .inr ⟨hen, fun hstand => by simp [hmoving] at hstand⟩

theorem pidMemory_wheelEnable (x : Wheel) :
    pidMemory (wheelEnable x) = pidMemory x ∨ (x.en = false ∧ pidMemory (wheelEnable x) = (0, 0)) := by
  obtain ⟨-, h⟩ | ⟨he, h⟩ := wheelEnable_cases x <;> rw [h]
  · exact .inl rfl
  · exact .inr ⟨he, rfl⟩

/-- The commands that change a wheel's regulator memory, and what they make of it. -/
theorem pidMemory_wheelAfter (c : Command) (s : State) (w : WheelId) :
    pidMemory (wheelAfter c s w) = pidMemory (s.wheel w) ∨
      (∃ dt, c = .tick dt ∧ (s.wheel w).en = true ∧
        ((wheelAfter c s w).standstill = true → pidMemory (wheelAfter c s w) = (0, 0))) ∨
      (pidMemory (wheelAfter c s w) = (0, 0) ∧
        (c = .pidReset w ∨ (c = .wEnable w ∨ c = .enableAll) ∧ (s.wheel w).en = false)) := by
  cases c with
  | nop | getOdom | getWheelStates | wGetState | init | setSpeed | resetOdom | disableAll => exact .inl rfl
  | wDisable | wSetTarget | pidSetCoeffs | pidSetRange => left; simp [wheelAfter, apply_ite pidMemory]
  | tick dt =>
    rw [wheelAfter]
    obtain ⟨-, h⟩ | ⟨hen, h⟩ := pidMemory_wheelUpdate s.params (tickInput dt s w) dt (sampleEncCnt s w)
    · exact .inl h
    · exact .inr (.inl ⟨dt, rfl, hen, h⟩)
  | enableAll =>
    rw [wheelAfter]
    obtain h | ⟨hen, h⟩ := pidMemory_wheelEnable (s.wheel w)
    · exact .inl h
    · exact .inr (.inr ⟨h, .inr ⟨.inr rfl, hen⟩⟩)
  | wEnable v =>
    by_cases hv : w = v
    · subst hv
      rw [wheelAfter, if_pos rfl]
      obtain h | ⟨hen, h⟩ := pidMemory_wheelEnable (s.wheel w)
      · exact .inl h
      · exact .inr (.inr ⟨h, .inr ⟨.inl rfl, hen⟩⟩)
    · rw [wheelAfter, if_neg hv]
      exact .inl rfl
  | pidReset v =>
    by_cases hv : w = v
    · subst hv
      rw [wheelAfter, if_pos rfl]
      exact .inr (.inr ⟨rfl, .inl rfl⟩)
    · rw [wheelAfter, if_neg hv]
      exact .inl rfl

/-- Settles O58, by the kind of step. -/
theorem regulatorMemoryChangesOnlyWhileRegulating : Obligations.RegulatorMemoryChangesOnlyWhileRegulating := by
  intro s t w hstep hrst hchanged
  have hne : pidMemory (t.wheel w) ≠ pidMemory (s.wheel w) := fun h => by
    obtain ⟨hinteg, hprev⟩ := Prod.mk.inj h
    exact hchanged.elim (absurd hinteg ·) (absurd hprev ·)
  cases step_effect hstep with
  | reset h _ => exact absurd h hrst
  | quiet _ _ hq => exact absurd (by rw [State.wheel, hq.wheels]; rfl) hne
  | accepted c h hr he =>
    refine ⟨c, h, hr, ?_⟩
    have hcases := pidMemory_wheelAfter c (takeMove s) w
    rw [← he.wheel_eq w] at hcases
    simpa only [pidMemory, Prod.mk.injEq, and_assoc, takeMove_wheel] using hcases.resolve_left hne

end Sys2Proof.Machine
end

section
/-! The power bound (spec/10_state.md R50, R52, R60): the saturated output of a regulator is finite and within its bound,
so its integer part is a power within `PWM_CEIL`. -/

namespace Sys2Proof.Machine

/-- The bound of an integer is that integer exactly, up to 2^24. -/
theorem f32Mag_u2f (n : Word) (h : n.toNat ≤ 2 ^ 24) : f32Mag (u2f n) = n.toNat * 2 ^ 149 := by
  rw [← signed_natAbs (f32Sign (u2f n)) (f32Mag (u2f n)), ← f32Units_eq_signed, f32Units_u2f n h]
  norm_cast

theorem f32Sign_u2f (n : Word) : f32Sign (u2f n) = false :=
  f32Sign_round _ _ _

theorem f32IsNaN_u2f (n : Word) : f32IsNaN (u2f n) = false :=
  f32IsNaN_round _ _ _

/-- A value that is no NaN and no greater in magnitude than a bound below the infinities is finite. -/
theorem f32IsFinite_of_mag {x : Word} (hnan : f32IsNaN x = false) (hmag : f32Mag x ≤ 2 ^ 24 * 2 ^ 149) :
    f32IsFinite x = true := by
  obtain ⟨h, -⟩ | ⟨-, h, -⟩ | ⟨-, -, h⟩ := f32_class x
  · simp [h] at hnan
  · rw [f32Mag_inf h] at hmag
    omega
  · exact h

/-- The saturated output is no NaN and no greater in magnitude than its bound. -/
theorem clampOutput_bounded (sum : Word) {limit : Word} (hnan : f32IsNaN limit = false)
    (hsign : f32Sign limit = false) :
    f32IsNaN (clampOutput sum limit) = false ∧ f32Mag (clampOutput sum limit) ≤ f32Mag limit := by
  have hneg : f32IsNaN (f32Negate limit) = false := by rwa [f32IsNaN_negate]
  unfold clampOutput
  split
  · exact ⟨by decide, Nat.zero_le _⟩
  next hsum =>
    rw [Bool.not_eq_true] at hsum
    split
    · exact ⟨hnan, le_refl _⟩
    next habove =>
      split
      · exact ⟨hneg, (f32Mag_negate limit).le⟩
      next hbelow =>
        rw [f32Gt, f32Lt_iff _ _ hnan hsum] at habove
        rw [f32Lt_iff _ _ hsum hneg, f32Units_negate] at hbelow
        have hlimit : f32Units limit = f32Mag limit := by simp [f32Units, hsign]
        have hmag : (f32Units sum).natAbs = f32Mag sum := by rw [f32Units_eq_signed, signed_natAbs]
        exact ⟨hsum, by omega⟩

/-- The power of a value within 2^24 is its integer part. -/
theorem natAbs_toInt_f2iTrunc {x : Word} (hnan : f32IsNaN x = false) {n : Nat} (hn : n ≤ 2 ^ 24)
    (hmag : f32Mag x ≤ n * 2 ^ 149) : (f2iTrunc x).toInt.natAbs ≤ n := by
  have hfin := f32IsFinite_of_mag hnan (hmag.trans (Nat.mul_le_mul_right _ hn))
  have htrunc : (f32Trunc x).natAbs = f32Mag x / 2 ^ 149 := by
    unfold f32Trunc
    split <;> simp only [Int.natAbs_neg, Int.natAbs_natCast]
  have hle : f32Mag x / 2 ^ 149 ≤ n := Nat.div_le_of_le_mul (by rwa [Nat.mul_comm])
  rw [toInt_f2iTrunc x hfin (by omega) (by omega)]
  omega

/-- The power of an update is within the bound of the regulator. -/
theorem natAbs_toInt_pidOutput (x : Wheel) (e : Word) (dt : Half) {n : Word} (hlimit : x.pidLimit = u2f n)
    (hn : n.toNat ≤ 2 ^ 24) : (f2iTrunc (pidOutput x e dt)).toInt.natAbs ≤ n.toNat := by
  obtain ⟨hnan, hmag⟩ := clampOutput_bounded (pidSum x e dt) (f32IsNaN_u2f n) (f32Sign_u2f n)
  rw [f32Mag_u2f n hn] at hmag
  rw [pidOutput, hlimit]
  exact natAbs_toInt_f2iTrunc hnan hn hmag

/-- PowerSafe reads EN, the power and the bound only. -/
theorem PowerSafe.congr {pwmCeil : Word} {x y : Wheel} (h : PowerSafe pwmCeil x) (hen : y.en = x.en)
    (hpower : y.power = x.power) (hlimit : y.pidLimit = x.pidLimit) : PowerSafe pwmCeil y := by
  unfold PowerSafe
  rw [hen, hpower, hlimit]
  exact h

/-- A wheel with no power is safe once its bound is. -/
theorem PowerSafe.of_zero {pwmCeil : Word} {x : Wheel} (hpower : x.power = 0)
    (hlimit : ∃ n : Nat, n ≤ pwmCeil.toNat ∧ x.pidLimit = u2f (BitVec.ofNat 32 n)) : PowerSafe pwmCeil x :=
  ⟨fun _ => hpower, by simp [hpower], hlimit⟩

theorem PowerSafe.limit {pwmCeil : Word} {x : Wheel} (h : PowerSafe pwmCeil x) :
    ∃ n : Nat, n ≤ pwmCeil.toNat ∧ x.pidLimit = u2f (BitVec.ofNat 32 n) := by
  obtain ⟨-, -, hlimit⟩ := h
  exact hlimit

/-- Loading the bound of an integer within `PWM_CEIL` keeps a wheel safe. -/
theorem PowerSafe.withLimit {p : Params} {x y : Wheel} (h : PowerSafe p.pwmCeil x) (hen : y.en = x.en)
    (hpower : y.power = x.power) (hlimit : LimitWithinCeil p y.pidLimit) : PowerSafe p.pwmCeil y := by
  obtain ⟨hdisabled, hle, -⟩ := h
  obtain ⟨n, hn, hlim⟩ := hlimit
  exact ⟨by rwa [hen, hpower], by rwa [hpower], n.toNat, hn, by rw [hlim, BitVec.ofNat_toNat, BitVec.setWidth_eq]⟩

/-- The regulation step of a safe wheel. -/
theorem PowerSafe.wheelRegulate {pwmCeil : Word} {x : Wheel} (h : PowerSafe pwmCeil x) (hceil : pwmCeil.toNat ≤ 2 ^ 24)
    (dt : Half) : PowerSafe pwmCeil (wheelRegulate x dt) := by
  obtain ⟨-, hr⟩ | ⟨-, -, hr⟩ | ⟨hen, -, hr⟩ := wheelRegulate_cases x dt <;> rw [hr]
  · exact h
  · exact .of_zero rfl h.limit
  · obtain ⟨-, -, n, hn, hlimit⟩ := h
    have hnat : (BitVec.ofNat 32 n).toNat = n := by
      rw [BitVec.toNat_ofNat]
      omega
    have hpower := natAbs_toInt_pidOutput x (wheelError x) dt hlimit (by omega)
    rw [hnat] at hpower
    exact ⟨fun hdis => by simp [hen] at hdis, hpower.trans hn, n, hn, hlimit⟩

theorem u2f_zero : u2f 0 = 0 := by decide +kernel

/-- A regulating tick writes a saturated power; disabling, standstill and the reset write 0. -/
theorem powerSafe_kept : KeptByOperations fun p x => ParamsLegal p ∧ PowerSafe p.pwmCeil x where
  reset := fun ⟨hlegal, _⟩ => ⟨hlegal, .of_zero rfl ⟨0, Nat.zero_le _, u2f_zero.symm⟩⟩
  init _ _ hlimit := fun ⟨hlegal, hsafe⟩ => ⟨hlegal, hsafe.withLimit rfl rfl hlimit⟩
  update {p x dt} count _ := fun ⟨hlegal, hsafe⟩ => by
    obtain ⟨hen, hpower, hlimit, -⟩ := wheelMeasure_keeps p x dt (truncEnc p.wEnc count)
    have ⟨_, ⟨_, hceil⟩, _⟩ := hlegal
    exact ⟨hlegal, (hsafe.congr hen hpower hlimit).wheelRegulate hceil dt⟩
  target _ h := h
  distance h := h
  enable {p x} := fun ⟨hlegal, hsafe⟩ => by
    obtain ⟨-, he⟩ | ⟨hdis, he⟩ := wheelEnable_cases x <;> rw [he]
    · exact ⟨hlegal, hsafe⟩
    · have ⟨hdisabled, _⟩ := hsafe
      exact ⟨hlegal, .of_zero (hdisabled hdis) hsafe.limit⟩
  disable := fun ⟨hlegal, hsafe⟩ => ⟨hlegal, .of_zero rfl hsafe.limit⟩
  pidReset h := h
  coeffs _ _ _ h := h
  range hlimit := fun ⟨hlegal, hsafe⟩ => ⟨hlegal, hsafe.withLimit rfl rfl hlimit⟩

/-- Settles O52: every operation on a wheel keeps its power bound. -/
theorem stepKeepsThePowerBound : Obligations.StepKeepsThePowerBound := by
  rintro s t ⟨hlegal, hsafe⟩ hstep
  have hwheel := fun w => powerSafe_kept.step hstep w ⟨hlegal, hsafe w⟩
  exact ⟨(hwheel .fl).left, fun w => (hwheel w).right⟩

end Sys2Proof.Machine
end

section
/-! The window (spec/10_state.md R60, spec/40_accumulator.md R141, spec/42_wheel.md R194): a push appends its sample to the
stored ones and drops the oldest once the window is full, so the running sums stay the sums of the stored samples. -/

namespace Sys2Proof.Machine

/-! The stored samples under a push. -/

theorem bufRead_of_set {x y : Wheel} {i : Nat} {smp : Sample} (hbuf : y.buf = x.buf.set i smp) (hi : i < x.buf.length)
    (k : Nat) : bufRead y k = if k = i then smp else bufRead x k := by
  simp only [bufRead, hbuf, List.getD_eq_getElem?_getD, List.getElem?_set]
  by_cases hk : k = i
  · simp [hk, hi]
  · simp [hk, Ne.symm hk]

/-- Fewer steps than there are slots do not lead around the ring to the same slot. -/
theorem ring_ne {n i k : Nat} (hi : i < n) (hk : 0 < k) (hkn : k < n) : (i + k) % n ≠ i := by
  rcases Nat.lt_or_ge (i + k) n with h | h
  · rw [Nat.mod_eq_of_lt h]
    omega
  · rw [Nat.mod_eq_sub_mod h, Nat.mod_eq_of_lt (by omega)]
    omega

theorem toNat_add_one_of_lt {a b : Word} (h : a.toNat < b.toNat) : (a + 1).toNat = a.toNat + 1 := by bv_omega

theorem storedSamples_accPush_filling {winN : Word} {x : Wheel} (h : WindowShape winN x) (smp : Sample)
    (hlt : x.count.toNat < winN.toNat) : storedSamples winN (accPush winN x smp).1 = storedSamples winN x ++ [smp] := by
  obtain ⟨hlen, -, -, hfilling⟩ := h
  obtain ⟨-, hpush⟩ | ⟨hfull, -⟩ := accPush_cases winN x smp
  · have hread := bufRead_of_set (y := (accPush winN x smp).1) (smp := smp) (by rw [hpush]) (hlen ▸ hlt)
    have hcount' : (accPush winN x smp).1.count.toNat = x.count.toNat + 1 := by
      rw [hpush]
      exact toNat_add_one_of_lt hlt
    have hhead : x.head.toNat = 0 := by
      rw [hfilling hlt]
      rfl
    have hhead' : (accPush winN x smp).1.head = x.head := by rw [hpush]
    simp only [storedSamples, hcount', hhead', hhead, Nat.zero_add, List.range_succ, List.map_append,
      List.map_singleton, Nat.mod_eq_of_lt hlt, hread, if_pos]
    congr 1
    refine List.map_congr_left fun k hk => ?_
    rw [List.mem_range] at hk
    rw [Nat.mod_eq_of_lt (by omega), if_neg (by omega)]
  · omega

theorem storedSamples_accPush_full {winN : Word} {x : Wheel} (h : WindowShape winN x) (smp : Sample)
    (hfull : winN.toNat ≤ x.count.toNat) :
    ∃ rest, storedSamples winN x = bufRead x x.head.toNat :: rest ∧
      storedSamples winN (accPush winN x smp).1 = rest ++ [smp] := by
  obtain ⟨hlen, hcount, hhead, -⟩ := h
  obtain ⟨hlt, -⟩ | ⟨-, hpush⟩ := accPush_cases winN x smp
  · omega
  · obtain ⟨m, hm⟩ : ∃ m, winN.toNat = m + 1 := ⟨winN.toNat - 1, by omega⟩
    have hread := bufRead_of_set (y := (accPush winN x smp).1) (smp := smp) (by rw [hpush]) (hlen ▸ hhead)
    have hcount' : (accPush winN x smp).1.count = x.count := by rw [hpush]
    have hhead' : (accPush winN x smp).1.head.toNat = (x.head.toNat + 1) % winN.toNat := by
      rw [hpush]
      have := winN.isLt
      have := Nat.mod_lt (x.head.toNat + 1) (show 0 < winN.toNat by omega)
      simp only [BitVec.toNat_ofNat]
      omega
    have hall : x.count.toNat = m + 1 := by omega
    refine ⟨(List.range m).map fun k => bufRead x ((x.head.toNat + (k + 1)) % winN.toNat), ?_, ?_⟩
    · simp only [storedSamples, hall, List.range_succ_eq_map, List.map_cons, List.map_map, Nat.add_zero,
        Nat.mod_eq_of_lt hhead]
      rfl
    · simp only [storedSamples, hcount', hhead', hall, Nat.mod_add_mod, List.range_succ, List.map_append,
        List.map_singleton, hread]
      congr 1
      · refine List.map_congr_left fun k hk => ?_
        rw [List.mem_range] at hk
        rw [Nat.add_right_comm, Nat.add_assoc, if_neg (ring_ne hhead (by omega) (by omega))]
      · rw [Nat.add_right_comm, Nat.add_assoc, ← hm, Nat.add_mod_right, Nat.mod_eq_of_lt hhead, if_pos rfl]

/-- What AccPush returns and what is left of the stored samples: nothing while the window fills, the oldest sample once it
is full. -/
theorem accPush_stored {winN : Word} {x : Wheel} (h : WindowShape winN x) (smp : Sample) :
    ∃ rest, storedSamples winN (accPush winN x smp).1 = rest ++ [smp] ∧
      ((accPush winN x smp).2 = zeroSample ∧ storedSamples winN x = rest ∨
        storedSamples winN x = (accPush winN x smp).2 :: rest) := by
  obtain ⟨hlt, hpush⟩ | ⟨hfull, hpush⟩ := accPush_cases winN x smp
  · exact ⟨_, storedSamples_accPush_filling h smp hlt, .inl ⟨by rw [hpush], rfl⟩⟩
  · obtain ⟨rest, hold, hnew⟩ := storedSamples_accPush_full h smp hfull
    exact ⟨rest, hnew, .inr (by rw [hpush, hold])⟩

/-- A push keeps the window well formed. -/
theorem accPush_shape {winN : Word} {x : Wheel} (h : WindowShape winN x) (smp : Sample) :
    WindowShape winN (accPush winN x smp).1 := by
  obtain ⟨hlen, hcount, hhead, hfilling⟩ := h
  have hwin := winN.isLt
  obtain ⟨hlt, hpush⟩ | ⟨hfull, hpush⟩ := accPush_cases winN x smp <;> rw [hpush]
  · exact ⟨by simp [hlen], by simp only [toNat_add_one_of_lt hlt]; omega, hhead, fun _ => hfilling hlt⟩
  · have hmod := Nat.mod_lt (x.head.toNat + 1) (show 0 < winN.toNat by omega)
    refine ⟨by simp [hlen], hcount, ?_, fun hlt => absurd hlt (by simp only; omega)⟩
    simp only [BitVec.toNat_ofNat]
    omega

/-! The running sums. -/

theorem length_storedSamples (winN : Word) (x : Wheel) : (storedSamples winN x).length = x.count.toNat := by
  simp [storedSamples]

@[simp] theorem sumDeltas_append (l : List Sample) (smp : Sample) : sumDeltas (l ++ [smp]) = sumDeltas l + smp.d := by
  simp [sumDeltas]

@[simp] theorem sumDeltas_cons (smp : Sample) (l : List Sample) : sumDeltas (smp :: l) = smp.d + sumDeltas l := by
  simp [sumDeltas]

@[simp] theorem sumTimes_append (l : List Sample) (smp : Sample) :
    sumTimes (l ++ [smp]) = sumTimes l + smp.t.toNat := by
  simp [sumTimes]

@[simp] theorem sumTimes_cons (smp : Sample) (l : List Sample) : sumTimes (smp :: l) = smp.t.toNat + sumTimes l := by
  simp [sumTimes]

/-- The times of the largest window do not wrap around. -/
theorem sumTimes_lt {l : List Sample} (h : ∀ smp ∈ l, smp.t.toNat ≤ 65535) (hlen : l.length ≤ 65536) :
    sumTimes l < 2 ^ 32 := by
  have hsum : sumTimes l ≤ l.length * 65535 := by
    rw [sumTimes, ← List.length_map (f := fun smp : Sample => smp.t.toNat), ← smul_eq_mul]
    exact List.sum_le_card_nsmul _ _ (by simpa using h)
  omega

/-- The times a tick can carry. -/
theorem zext16_range {dt : Half} (hdt : dt ≠ 0) : 1 ≤ (zext16 dt).toNat ∧ (zext16 dt).toNat ≤ 65535 := by
  have hlt := dt.isLt
  have hne : dt.toNat ≠ 0 := fun h => hdt (BitVec.eq_of_toNat_eq h)
  simp only [zext16, BitVec.toNat_ofNat]
  omega

/-- The window of a wheel is well formed and its running sums are those of the stored samples. -/
def WindowOk (winN : Word) (x : Wheel) : Prop :=
  WindowShape winN x ∧ WindowSums winN x

/-- Running sums over `oldest :: rest`, or over `rest` with nothing to drop, become those of `rest ++ [smp]`. -/
theorem WindowOk.wheelPush {winN : Word} {x : Wheel} (h : WindowOk winN x) (hwin : winN.toNat ≤ 65536) (delta : Word)
    {dt : Half} (hdt : dt ≠ 0) : WindowOk winN (wheelPush winN x delta dt) := by
  obtain ⟨hshape, htick, htime, hrange⟩ := h
  have hshape' := accPush_shape hshape ⟨delta, zext16 dt⟩
  obtain ⟨rest, hstored', hstored⟩ := accPush_stored hshape ⟨delta, zext16 dt⟩
  have hrange' : ∀ smp ∈ rest ++ [⟨delta, zext16 dt⟩], 1 ≤ smp.t.toNat ∧ smp.t.toNat ≤ 65535 := by
    intro smp hsmp
    rw [List.mem_append, List.mem_singleton] at hsmp
    obtain hrest | rfl := hsmp
    · exact hrange smp (by obtain ⟨-, h⟩ | h := hstored <;> simp [h, hrest])
    · exact zext16_range hdt
  have hbound : sumTimes (rest ++ [⟨delta, zext16 dt⟩]) < 2 ^ 32 := by
    have ⟨_, hcount, _⟩ := hshape'
    rw [← length_storedSamples winN, hstored'] at hcount
    exact sumTimes_lt (fun smp hsmp => (hrange' smp hsmp).right) (hcount.trans hwin)
  obtain ⟨hdeltas, htimes⟩ :
      sumDeltas (storedSamples winN x) = (accPush winN x ⟨delta, zext16 dt⟩).2.d + sumDeltas rest ∧
      sumTimes (storedSamples winN x) = (accPush winN x ⟨delta, zext16 dt⟩).2.t.toNat + sumTimes rest := by
    obtain ⟨hzero, h⟩ | h := hstored
    · simp [h, hzero, zeroSample]
    · simp [h]
  refine ⟨hshape', ?_, ?_, ?_⟩
  · change x.tickSum + delta - _ = sumDeltas (storedSamples winN (accPush winN x ⟨delta, zext16 dt⟩).1)
    rw [hstored', sumDeltas_append, htick, hdeltas]
    ring
  · change (x.timeSum + zext16 dt - _).toNat = sumTimes (storedSamples winN (accPush winN x ⟨delta, zext16 dt⟩).1)
    rw [hstored']
    rw [sumTimes_append] at hbound ⊢
    bv_omega
  · change ∀ smp ∈ storedSamples winN (accPush winN x ⟨delta, zext16 dt⟩).1, _
    rw [hstored']
    exact hrange'

/-- The two wheels agree in what the window's facts read. -/
structure SameWindow (x y : Wheel) : Prop where
  buf : y.buf = x.buf
  count : y.count = x.count
  head : y.head = x.head
  tickSum : y.tickSum = x.tickSum
  timeSum : y.timeSum = x.timeSum

theorem SameWindow.windowOk {x y : Wheel} (hxy : SameWindow x y) {winN : Word} (h : WindowOk winN x) :
    WindowOk winN y := by
  obtain ⟨hbuf, hcount, hhead, htick, htime⟩ := hxy
  have hstored : storedSamples winN y = storedSamples winN x := by simp only [storedSamples, bufRead, hbuf, hcount, hhead]
  simpa only [WindowOk, WindowShape, WindowSums, hstored, hbuf, hcount, hhead, htick, htime] using h

theorem sameWindow_wheelMeasure (p : Params) (x : Wheel) (dt : Half) (raw : Word) :
    SameWindow
      (wheelPush p.winN { x with encPrev := correctedCount p.wEnc x raw }
        (tickDelta p.wEnc x (correctedCount p.wEnc x raw)) dt)
      (wheelMeasure p x dt raw) := by
  constructor <;> simp only [wheelMeasure]

theorem sameWindow_wheelRegulate (x : Wheel) (dt : Half) : SameWindow x (wheelRegulate x dt) := by
  obtain ⟨-, h⟩ | ⟨-, -, h⟩ | ⟨-, -, h⟩ := wheelRegulate_cases x dt <;> rw [h] <;> constructor <;> rfl

theorem WindowOk.wheelUpdate {p : Params} {x : Wheel} (h : WindowOk p.winN x) (hlegal : ParamsLegal p) {dt : Half}
    (hdt : dt ≠ 0) (raw : Word) : WindowOk p.winN (wheelUpdate p x dt raw) := by
  have ⟨⟨_, hwin⟩, _⟩ := hlegal
  have hsampled : WindowOk p.winN { x with encPrev := correctedCount p.wEnc x raw } :=
    SameWindow.windowOk ⟨rfl, rfl, rfl, rfl, rfl⟩ h
  have hmeasured := (sameWindow_wheelMeasure p x dt raw).windowOk (hsampled.wheelPush hwin _ hdt)
  exact (sameWindow_wheelRegulate _ dt).windowOk hmeasured

theorem windowOk_reset {winN : Word} (hwin : 1 ≤ winN.toNat) : WindowOk winN (Wheel.reset winN) :=
  ⟨⟨by simp [Wheel.reset], Nat.zero_le _, hwin, fun _ => rfl⟩, rfl, rfl, fun _ h => by cases h⟩

/-- The push of a tick is the only operation that moves the window. -/
theorem windowOk_kept : KeptByOperations fun p x => ParamsLegal p ∧ WindowOk p.winN x where
  reset := fun ⟨hlegal, _⟩ => by
    have ⟨⟨hwin, _⟩, _⟩ := hlegal
    exact ⟨hlegal, windowOk_reset hwin⟩
  init _ _ _ h := h
  update count hdt := fun ⟨hlegal, h⟩ => ⟨hlegal, h.wheelUpdate hlegal hdt _⟩
  target _ h := h
  distance h := h
  enable {p x} h := by obtain ⟨-, he⟩ | ⟨-, he⟩ := wheelEnable_cases x <;> rw [he] <;> exact h
  disable h := h
  pidReset h := h
  coeffs _ _ _ h := h
  range _ h := h

/-! ENC_PREV and the encoder counters. -/

theorem truncEnc_lt (wEnc v : Word) : (truncEnc wEnc v).toNat < 2 ^ wEnc.toNat := by
  rw [truncEnc, BitVec.toNat_ofNat]
  exact (Nat.mod_le _ _).trans_lt (Nat.mod_lt _ (Nat.two_pow_pos _))

theorem wheelUpdate_encPrev (p : Params) (x : Wheel) (dt : Half) (raw : Word) :
    (wheelUpdate p x dt raw).encPrev = correctedCount p.wEnc x raw := by
  have hmeasured : (wheelMeasure p x dt raw).encPrev = correctedCount p.wEnc x raw := by
    simp only [wheelMeasure, wheelPush, accPush_keeps]
  rw [wheelUpdate]
  obtain ⟨-, h⟩ | ⟨-, -, h⟩ | ⟨-, -, h⟩ := wheelRegulate_cases (wheelMeasure p x dt raw) dt <;> rw [h] <;>
    exact hmeasured

/-- A tick writes ENC_PREV with a count of W_ENC bits, INIT and the reset with 0. -/
theorem encPrev_kept : KeptByOperations fun p x => x.encPrev.toNat < 2 ^ p.wEnc.toNat where
  reset _ := Nat.two_pow_pos _
  init _ _ _ _ := Nat.two_pow_pos _
  update {p x dt} count _ _ := by
    rw [wheelUpdate_encPrev, correctedCount]
    split <;> exact truncEnc_lt _ _
  target _ h := h
  distance h := h
  enable {p x} h := by obtain ⟨-, he⟩ | ⟨-, he⟩ := wheelEnable_cases x <;> rw [he] <;> exact h
  disable h := h
  pidReset h := h
  coeffs _ _ _ h := h
  range _ h := h

/-- INIT alone, of the commands, moves the encoder counters: its strobe zeroes them. -/
theorem CommandEffect.encCnt {c : Command} {s t : State} (h : CommandEffect c s t) (w : WheelId) :
    (t.channel w).encCnt = (s.channel w).encCnt ∨ (t.channel w).encCnt = 0 := by
  cases c with
  | nop | resetOdom | disableAll | wDisable => subst h; exact .inl rfl
  | init => rw [h, acceptedInit_channel]; exact .inr rfl
  | tick dt => obtain ⟨rfl, -⟩ := h; rw [acceptedTick_eq]; exact .inl rfl
  | getOdom | getWheelStates | wGetState => obtain ⟨r, rfl⟩ := h; exact .inl rfl
  | setSpeed | enableAll | wEnable | wSetTarget | pidReset | pidSetCoeffs | pidSetRange =>
    obtain ⟨rfl, -⟩ := h; exact .inl rfl

theorem step_keeps_encCnt {s t : State} (hstep : step s = .next t) (w : WheelId)
    (h : (s.channel w).encCnt.toNat < 2 ^ s.params.wEnc.toNat) :
    (t.channel w).encCnt.toNat < 2 ^ t.params.wEnc.toNat := by
  have heffect := step_effect hstep
  rw [heffect.params]
  cases heffect with
  | reset _ ht => subst ht; exact h
  | accepted c _ _ he =>
    obtain hkept | hzero := he.encCnt w
    · rw [hkept]
      exact h
    · rw [hzero]
      exact Nat.two_pow_pos _
  | quiet _ _ hq =>
    obtain hkept | ⟨n, hset⟩ := hq.encCnt w
    · rwa [hkept]
    · rw [hset]
      exact truncEnc_lt _ _

/-- Settles O51: every operation on a wheel keeps its window and its count, and every step the channels' counters. -/
theorem stepKeepsTheWindowSums : Obligations.StepKeepsTheWindowSums := by
  refine fun s t hstep => ⟨fun ⟨hlegal, hwindow⟩ => ?_, fun hcount w => ?_⟩
  · have hwheel := fun w => windowOk_kept.step hstep w ⟨hlegal, hwindow w⟩
    exact ⟨(hwheel .fl).left, fun w => (hwheel w).right⟩
  · obtain ⟨hprev, hcnt⟩ := hcount w
    exact ⟨encPrev_kept.step hstep w hprev, step_keeps_encCnt hstep w hcnt⟩

end Sys2Proof.Machine
end

section
/-! The address map and its gaps (spec/20_memory.md R88, R89), block by block: CFG, the wheels, RES and the single
registers. Then the step on a decodable bus request (R90). -/

namespace Sys2Proof.Machine

/-! The register at a position of a block. -/

theorem cfgIndex_of_cfgOfIndex {k : Nat} {c : CfgReg} (h : cfgOfIndex k = some c) : cfgIndex c = k := by
  unfold cfgOfIndex at h
  split at h <;> cases h <;> rfl

theorem cfgOfIndex_eq_none_iff (k : Nat) : cfgOfIndex k = none ↔ 11 ≤ k := by
  unfold cfgOfIndex
  split
  case h_12 => simp only [imp_false, true_iff] at *; omega
  all_goals decide

theorem wheelRegIndex_of_wheelRegOfIndex {k : Nat} {r : WheelReg} (h : wheelRegOfIndex k = some r) :
    wheelRegIndex r = k := by
  unfold wheelRegOfIndex at h
  split at h <;> cases h <;> rfl

theorem wheelRegOfIndex_eq_none_iff (k : Nat) : wheelRegOfIndex k = none ↔ 16 ≤ k := by
  unfold wheelRegOfIndex
  split
  case h_17 => simp only [imp_false, true_iff] at *; omega
  all_goals decide

theorem wheelIndex_wheelOfIndex {k : Nat} (h : k < 4) : wheelIndex (wheelOfIndex k) = k := by
  match k, h with
  | 0, _ | 1, _ | 2, _ | 3, _ => rfl

theorem regAddr_of_singleRegAt {n : Nat} {r : Reg} (h : singleRegAt n = some r) : regAddr r = n := by
  unfold singleRegAt at h
  split at h <;> cases h <;> rfl

theorem singleRegAt_eq_none_iff {n : Nat} (hn : n % 4 = 0) :
    singleRegAt n = none ↔ n = 0x00C ∨ (0x024 ≤ n ∧ n < 0x200) ∨ 0x21C ≤ n := by
  unfold singleRegAt
  split
  case h_16 => simp only [imp_false, true_iff] at *; omega
  all_goals decide

/-! The map. -/

/-- The address of the register found at `a` is `a`, block by block. -/
theorem regAddr_of_regAt {a : Addr} {r : Reg} (h : regAt a = some r) : regAddr r = a.toNat := by
  simp only [regAt] at h
  split_ifs at h with haligned hres hcfg hwheel
  · cases h
    simp only [regAddr, Fin.ofNat]
    omega
  · obtain ⟨c, hc, rfl⟩ := Option.map_eq_some_iff.mp h
    rw [regAddr, cfgIndex_of_cfgOfIndex hc]
    omega
  · obtain ⟨x, hx, rfl⟩ := Option.map_eq_some_iff.mp h
    have hblock : (a.toNat - 0x100) / 0x40 < 4 := by omega
    rw [regAddr, wheelRegIndex_of_wheelRegOfIndex hx, wheelIndex_wheelOfIndex hblock]
    omega
  · exact regAddr_of_singleRegAt h

/-- The word addresses at which no register stands. RES and the wheel blocks fill their ranges, CFG stops at its eleventh
word, and the rest lies between and above the single registers. -/
theorem regAt_eq_none_iff {a : Addr} (ha : a.toNat % 4 = 0) :
    regAt a = none ↔
      (a.toNat = 0x00C ∨ (0x024 ≤ a.toNat ∧ a.toNat ≤ 0x03C) ∨ (0x090 ≤ a.toNat ∧ a.toNat ≤ 0x0BC) ∨
        (0x0EC ≤ a.toNat ∧ a.toNat ≤ 0x0FC) ∨ (0x21C ≤ a.toNat ∧ a.toNat ≤ 0xFFC)) := by
  have hlt : a.toNat < 4096 := a.isLt
  simp only [regAt, ha, ne_eq, not_true_eq_false, if_false]
  split_ifs with hres hcfg hwheel
  · simp only [false_iff]
    omega
  · rw [Option.map_eq_none_iff, cfgOfIndex_eq_none_iff]
    omega
  · rw [Option.map_eq_none_iff, wheelRegOfIndex_eq_none_iff]
    omega
  · rw [singleRegAt_eq_none_iff ha]
    omega

/-- Settles O5: the map finds every register at its address, and what it finds at an address has that address. -/
theorem addressMapIsOneToOne : Obligations.AddressMapIsOneToOne :=
  ⟨regAt_regAddr, fun _ _ h => (regAddr_of_regAt h).symm⟩

/-! Accesses to the gaps. -/

theorem execRd_of_unmapped {a : Addr} (h : regAt a = none) (s : State) : execRd a s = .next (malformedRead s) := by
  simp only [execRd, h]

theorem execWr_of_unmapped {a : Addr} (h : regAt a = none) (v : Word) (s : State) :
    execWr a v s = .next (malformedWrite s) := by
  simp only [execWr, h]

/-- Settles O6: the gaps are counted block by block, and an access to one is malformed. -/
theorem unmappedAddressesAreBusErrors : Obligations.UnmappedAddressesAreBusErrors :=
  fun _ ha => ⟨regAt_eq_none_iff ha, fun h s v => ⟨execRd_of_unmapped h s, execWr_of_unmapped h v s⟩⟩

/-! The step on a bus request. -/

theorem fetchMove_busRequest {desc : Half} {data : Word} {i : Instr} (h : decode (.bus desc data) = .ok i) :
    fetchMove (.busRequest desc data) = .run i := by
  simp only [fetchMove, h]

/-- Settles O13: a decodable request is fetched as its operation, and the step runs what is fetched. -/
theorem stepRunsTheDecodedBusRequest : Obligations.StepRunsTheDecodedBusRequest := by
  intro s desc data ms i hinbox hdecode
  obtain ⟨-, hrun, -⟩ := step_cons s (.busRequest desc data) ms hinbox
  exact hrun i (fetchMove_busRequest hdecode)

end Sys2Proof.Machine
end

section
/-! Encoding and decoding (spec/30_encoding.md R111 to R118): the decoder of command words by format, the decoder of bus
requests, and each as the inverse of its encoder. Then the two moves that are no bus request: a tick of the tick port
(R124) and a move of the environment (R122). -/

namespace Sys2Proof.Machine

/-! Bit fields. -/

theorem toNat_extractLsb'_eq_bitField {n : Nat} (v : BitVec n) (lo width : Nat) :
    (v.extractLsb' lo width).toNat = bitField v lo width := by
  rw [BitVec.extractLsb'_toNat, Nat.shiftRight_eq_div_pow, bitField]

theorem extractLsb'_eq_zero_iff {n : Nat} (v : BitVec n) (lo width : Nat) :
    v.extractLsb' lo width = 0 ↔ bitField v lo width = 0 := by
  rw [← toNat_extractLsb'_eq_bitField, BitVec.toNat_eq, BitVec.ofNat_eq_ofNat, BitVec.toNat_zero]

/-- The word of a TICK is its fields side by side: IMM16 above RSV, W and OPC. -/
theorem tickWord_eq_append (dt : Half) : tickWord dt = dt ++ 0x0002#16 := by
  have hdt : dt.toNat < 2 ^ 16 := dt.isLt
  apply BitVec.eq_of_toNat_eq
  rw [BitVec.toNat_append, ← Nat.shiftLeft_add_eq_or_of_lt (BitVec.isLt _), Nat.shiftLeft_eq, tickWord,
    BitVec.toNat_ofNat, BitVec.toNat_ofNat]
  omega

/-! A word is fixed by the fields of its format. -/

theorem eq_globalWord {v : Word} {opc : Nat} (hopc : bitField v 0 8 = opc) (hzero : bitField v 8 24 = 0) :
    v = globalWord opc := by
  have hv : v.toNat < 2 ^ 32 := v.isLt
  apply BitVec.eq_of_toNat_eq
  simp only [bitField, globalWord, BitVec.toNat_ofNat] at *
  omega

theorem eq_tickWord {v : Word} (hopc : bitField v 0 8 = 0x02) (hzero : bitField v 8 8 = 0) :
    v = tickWord (BitVec.ofNat 16 (bitField v 16 16)) := by
  have hv : v.toNat < 2 ^ 32 := v.isLt
  apply BitVec.eq_of_toNat_eq
  simp only [bitField, tickWord, BitVec.toNat_ofNat] at *
  omega

theorem eq_wheelWord {v : Word} {opc : Nat} (hopc : bitField v 0 8 = opc) (hzero : bitField v 10 22 = 0) :
    v = wheelWord opc (wheelOfIndex (bitField v 8 2)) := by
  have hv : v.toNat < 2 ^ 32 := v.isLt
  have hindex : wheelIndex (wheelOfIndex (bitField v 8 2)) = bitField v 8 2 :=
    wheelIndex_wheelOfIndex (Nat.mod_lt _ (by decide))
  apply BitVec.eq_of_toNat_eq
  simp only [wheelWord, hindex, BitVec.toNat_ofNat]
  simp only [bitField] at *
  omega

/-! The three formats of a command word: each is legal exactly when the field it holds at 0 is 0. -/

theorem checkReserved_eq_ok_iff {p : Prop} [Decidable p] {c d : Command} :
    (if p then .ok c else .error .reservedBits : Except DecodeError Command) = .ok d ↔ p ∧ d = c := by
  split <;> simp [*, eq_comm (a := c)]

theorem checkReserved_illegal_iff {p : Prop} [Decidable p] {c : Command} :
    (∃ e, (if p then .ok c else .error .reservedBits : Except DecodeError Command) = .error e) ↔ ¬p := by
  split <;> simp [*]

theorem decodeGlobal_eq_ok_iff {v : Word} {c d : Command} :
    decodeGlobal v c = .ok d ↔ bitField v 8 24 = 0 ∧ d = c := checkReserved_eq_ok_iff

theorem decodeTick_eq_ok_iff {v : Word} {d : Command} :
    decodeTick v = .ok d ↔ bitField v 8 8 = 0 ∧ d = .tick (BitVec.ofNat 16 (bitField v 16 16)) :=
  checkReserved_eq_ok_iff

theorem decodeWheel_eq_ok_iff {v : Word} {c : WheelId → Command} {d : Command} :
    decodeWheel v c = .ok d ↔ bitField v 10 22 = 0 ∧ d = c (wheelOfIndex (bitField v 8 2)) :=
  checkReserved_eq_ok_iff

theorem decodeGlobal_illegal_iff {v : Word} {c : Command} :
    (∃ e, decodeGlobal v c = .error e) ↔ bitField v 8 24 ≠ 0 := checkReserved_illegal_iff

theorem decodeTick_illegal_iff {v : Word} : (∃ e, decodeTick v = .error e) ↔ bitField v 8 8 ≠ 0 :=
  checkReserved_illegal_iff

theorem decodeWheel_illegal_iff {v : Word} {c : WheelId → Command} :
    (∃ e, decodeWheel v c = .error e) ↔ bitField v 10 22 ≠ 0 := checkReserved_illegal_iff

/-! The opcode table. -/

/-- The format the opcode of `v` selects, the commands of that format as the encoder writes them, and what decoding `v`
in that format gives. -/
inductive CommandFormat (v : Word) : Except DecodeError Command → Prop where
  /-- a global command other than TICK -/
  | global {opc : Nat} (hopc : bitField v 0 8 = opc) (hle : opc ≤ 0x08) (hne : opc ≠ 0x02) (c : Command)
      (henc : encodeCommand c = globalWord opc) : CommandFormat v (decodeGlobal v c)
  /-- TICK -/
  | tick (hopc : bitField v 0 8 = 0x02) : CommandFormat v (decodeTick v)
  /-- a command of one wheel -/
  | wheel {opc : Nat} (hopc : bitField v 0 8 = opc) (hge : 0x10 ≤ opc) (hle : opc ≤ 0x16) (c : WheelId → Command)
      (henc : ∀ w, encodeCommand (c w) = wheelWord opc w) : CommandFormat v (decodeWheel v c)
  /-- no command -/
  | unknown (hglobal : ¬bitField v 0 8 ≤ 0x08) (hwheel : ¬(0x10 ≤ bitField v 0 8 ∧ bitField v 0 8 ≤ 0x16)) :
      CommandFormat v (.error .unknownOpcode)

/-- The decoder reads every word in the format its opcode selects; the only walk through the opcode table. -/
theorem decodeCommand_format (v : Word) : CommandFormat v (decodeCommand v) := by
  unfold decodeCommand
  split
  case h_3 hopc => exact .tick hopc
  case h_10 hopc | h_11 hopc | h_12 hopc | h_13 hopc | h_14 hopc | h_15 hopc | h_16 hopc =>
    exact .wheel hopc (by decide) (by decide) _ fun _ => rfl
  case h_17 =>
    simp only [imp_false] at *
    exact .unknown (by omega) (by omega)
  all_goals exact .global ‹_› (by decide) (by decide) _ rfl

/-- A word read as a command is that command's encoding: its format fixes every bit. -/
theorem CommandFormat.eq_encodeCommand {v : Word} {r : Except DecodeError Command} (hformat : CommandFormat v r)
    {c : Command} (h : r = .ok c) : v = encodeCommand c := by
  cases hformat with
  | global hopc _ _ c henc =>
    obtain ⟨hzero, rfl⟩ := decodeGlobal_eq_ok_iff.mp h
    rw [henc]
    exact eq_globalWord hopc hzero
  | tick hopc =>
    obtain ⟨hzero, rfl⟩ := decodeTick_eq_ok_iff.mp h
    exact eq_tickWord hopc hzero
  | wheel hopc _ _ c henc =>
    obtain ⟨hzero, rfl⟩ := decodeWheel_eq_ok_iff.mp h
    rw [henc]
    exact eq_wheelWord hopc hzero
  | unknown => cases h

/-- The four cases of R117, one for each format. -/
theorem CommandFormat.illegal_iff {v : Word} {r : Except DecodeError Command} (hformat : CommandFormat v r) :
    (∃ e, r = .error e) ↔
      ((¬bitField v 0 8 ≤ 0x08 ∧ ¬(0x10 ≤ bitField v 0 8 ∧ bitField v 0 8 ≤ 0x16)) ∨
        (bitField v 0 8 ≤ 0x08 ∧ bitField v 0 8 ≠ 0x02 ∧ bitField v 8 24 ≠ 0) ∨
        (bitField v 0 8 = 0x02 ∧ bitField v 8 8 ≠ 0) ∨
        ((0x10 ≤ bitField v 0 8 ∧ bitField v 0 8 ≤ 0x16) ∧ bitField v 10 22 ≠ 0)) := by
  cases hformat with
  | global hopc hle hne => rw [decodeGlobal_illegal_iff]; omega
  | tick hopc => rw [decodeTick_illegal_iff]; omega
  | wheel hopc hge hle => rw [decodeWheel_illegal_iff]; omega
  | unknown hglobal hwheel => exact iff_of_true ⟨_, rfl⟩ (.inl ⟨hglobal, hwheel⟩)

/-! Command words and their encodings. -/

theorem decodeCommand_encodeCommand (c : Command) : decodeCommand (encodeCommand c) = .ok c := by
  cases c with
  | tick dt => exact decodeCommand_tickWord dt
  | wEnable w | wDisable w | wSetTarget w | wGetState w | pidReset w | pidSetCoeffs w | pidSetRange w =>
    cases w <;> rfl
  | _ => rfl

theorem decodeCommand_eq_ok_iff (v : Word) (c : Command) : decodeCommand v = .ok c ↔ v = encodeCommand c :=
  ⟨fun h => (decodeCommand_format v).eq_encodeCommand h, fun h => h ▸ decodeCommand_encodeCommand c⟩

theorem encode_toInstr (c : Command) : encode c.toInstr = .command (encodeCommand c) := by
  cases c <;> rfl

theorem decode_encodeCommand (c : Command) : decode (.command (encodeCommand c)) = .ok c.toInstr := by
  simp only [decode, decodeCommand_encodeCommand]

/-! Bus requests. -/

/-- The operation a legal descriptor requests: its direction decides whether the data word is used. -/
def busInstr (write : Bool) (a : Addr) (data : Word) : Instr :=
  if write then .wr a data else .rd a

theorem toNat_busDescriptor (write : Bool) (a : Addr) :
    (busDescriptor write a).toNat = (if write then 2 ^ 15 else 0) + 2 * 2 ^ 12 + a.toNat := by
  have ha : a.toNat < 2 ^ 12 := a.isLt
  rw [busDescriptor, BitVec.toNat_ofNat]
  split <;> omega

theorem decodeBus_busDescriptor (write : Bool) {a : Addr} (ha : alignedAddr a = true) (data : Word) :
    decodeBus (busDescriptor write a) data = .ok (busInstr write a data) := by
  have hlt : a.toNat < 2 ^ 12 := a.isLt
  have haddr : bitField (busDescriptor write a) 0 12 = a.toNat := by
    rw [bitField, toNat_busDescriptor]; split <;> omega
  have hsize : bitField (busDescriptor write a) 12 3 = 2 := by
    rw [bitField, toNat_busDescriptor]; split <;> omega
  have hwrite : bitField (busDescriptor write a) 15 1 = if write then 1 else 0 := by
    rw [bitField, toNat_busDescriptor]; split <;> omega
  cases write <;> simp [decodeBus, busInstr, haddr, hsize, hwrite, ha]

/-- With the size of a 4-byte access, direction and address fix a descriptor. -/
theorem eq_busDescriptor {desc : Half} {write : Bool} (hsize : bitField desc 12 3 = 2)
    (hwrite : bitField desc 15 1 = 1 ↔ write = true) :
    desc = busDescriptor write (BitVec.ofNat 12 (bitField desc 0 12)) := by
  have hdesc : desc.toNat < 2 ^ 16 := desc.isLt
  apply BitVec.eq_of_toNat_eq
  rw [toNat_busDescriptor, BitVec.toNat_ofNat]
  simp only [bitField] at *
  cases write <;> simp only [Bool.false_eq_true, iff_false, iff_true, if_true, if_false] at * <;> omega

/-- The requests that decode are the descriptors of aligned 4-byte accesses. -/
theorem decodeBus_eq_ok_iff (desc : Half) (data : Word) (i : Instr) :
    decodeBus desc data = .ok i ↔
      ∃ write a, alignedAddr a = true ∧ desc = busDescriptor write a ∧ i = busInstr write a data := by
  constructor
  · intro h
    simp only [decodeBus] at h
    split_ifs at h with hsize hmisaligned hwrite
    all_goals
      have haligned := Bool.eq_true_of_not_eq_false hmisaligned
      cases h
    · exact ⟨true, _, haligned, eq_busDescriptor (not_not.mp hsize) (iff_of_true hwrite rfl), rfl⟩
    · exact ⟨false, _, haligned, eq_busDescriptor (not_not.mp hsize) (iff_of_false hwrite Bool.false_ne_true), rfl⟩
  · rintro ⟨write, a, ha, rfl, rfl⟩
    exact decodeBus_busDescriptor write ha data

/-! All operations. -/

/-- An operation is a command or one of the two bus operations. -/
theorem instr_cases (i : Instr) : (∃ c : Command, i = c.toInstr) ∨ (∃ a, i = .rd a) ∨ ∃ a data, i = .wr a data := by
  cases i with
  | rd a => exact .inr (.inl ⟨a, rfl⟩)
  | wr a data => exact .inr (.inr ⟨a, data, rfl⟩)
  | nop => exact .inl ⟨.nop, rfl⟩
  | init => exact .inl ⟨.init, rfl⟩
  | tick dt => exact .inl ⟨.tick dt, rfl⟩
  | setSpeed => exact .inl ⟨.setSpeed, rfl⟩
  | resetOdom => exact .inl ⟨.resetOdom, rfl⟩
  | enableAll => exact .inl ⟨.enableAll, rfl⟩
  | disableAll => exact .inl ⟨.disableAll, rfl⟩
  | getOdom => exact .inl ⟨.getOdom, rfl⟩
  | getWheelStates => exact .inl ⟨.getWheelStates, rfl⟩
  | wEnable w => exact .inl ⟨.wEnable w, rfl⟩
  | wDisable w => exact .inl ⟨.wDisable w, rfl⟩
  | wSetTarget w => exact .inl ⟨.wSetTarget w, rfl⟩
  | wGetState w => exact .inl ⟨.wGetState w, rfl⟩
  | pidReset w => exact .inl ⟨.pidReset w, rfl⟩
  | pidSetCoeffs w => exact .inl ⟨.pidSetCoeffs w, rfl⟩
  | pidSetRange w => exact .inl ⟨.pidSetRange w, rfl⟩

/-- Settles O1: a command is read back from its word, a bus operation from its descriptor. -/
theorem decodeOfEncodeIsTheInstruction : Obligations.DecodeOfEncodeIsTheInstruction := by
  intro i hi
  obtain ⟨c, rfl⟩ | ⟨a, rfl⟩ | ⟨a, data, rfl⟩ := instr_cases i
  · rw [encode_toInstr, decode_encodeCommand]
  · exact decodeBus_busDescriptor false hi 0
  · exact decodeBus_busDescriptor true hi data

/-- Settles O2: the two characterisations of what decodes, the bus one by direction. -/
theorem legalWordsAreExactlyTheEncodings : Obligations.LegalWordsAreExactlyTheEncodings := by
  refine ⟨decodeCommand_eq_ok_iff, fun desc data i h => ?_⟩
  obtain ⟨write, a, ha, rfl, rfl⟩ := (decodeBus_eq_ok_iff desc data i).mp h
  cases write
  case false => exact ⟨ha, .inl ⟨a, rfl, rfl⟩⟩
  case true => exact ⟨ha, .inr ⟨a, rfl, rfl⟩⟩

/-- Settles O4: each word is the encoding of its operation. -/
theorem wordsOfTheSpecDecode : Obligations.WordsOfTheSpecDecode :=
  ⟨decodeOfEncodeIsTheInstruction (.tick 20) rfl, decodeOfEncodeIsTheInstruction .setSpeed rfl,
    decodeOfEncodeIsTheInstruction (.wSetTarget .rr) rfl, decodeOfEncodeIsTheInstruction (.pidSetCoeffs .rl) rfl,
    decodeOfEncodeIsTheInstruction (.rd 0x010) rfl, decodeOfEncodeIsTheInstruction (.wr 0x014 1) rfl⟩

/-! A command word at CMD. -/

theorem execCommandWord_of_legal {v : Word} {c : Command} (h : decodeCommand v = .ok c) (s : State) :
    execCommandWord v s = exec c.toInstr s := by
  simp only [execCommandWord, h, execCommand_eq_exec]

theorem execCommandWord_of_illegal {v : Word} {e : DecodeError} (h : decodeCommand v = .error e) (s : State) :
    execCommandWord v s = .next (refuse .illegalCmd s) := by
  simp only [execCommandWord, h]

theorem exec_wr_cmd (v : Word) (s : State) : exec (.wr 0x014 v) s = execCommandWord v s := execWr_cmd v s

/-- Settles O3: the cases of R117 are those of the format the opcode selects. -/
theorem illegalCommandWordsAreRefused : Obligations.IllegalCommandWordsAreRefused := by
  intro v s
  constructor
  · simp only [toNat_extractLsb'_eq_bitField, ne_eq, extractLsb'_eq_zero_iff]
    exact (decodeCommand_format v).illegal_iff
  · rintro ⟨e, he⟩
    rw [exec_wr_cmd, execCommandWord_of_illegal he]
    rfl

/-! The tick port and the environment. -/

theorem decode_tickWord (dt : Half) : decode (.command (tickWord dt)) = .ok (.tick dt) :=
  decode_encodeCommand (.tick dt)

theorem fetchMove_portTick (dt : Half) : fetchMove (.portTick dt) = .run (.tick dt) := by
  simp only [fetchMove, decode_tickWord]

/-- Settles O14: the port's move is fetched as the TICK its word decodes to, and so is that word at CMD. -/
theorem stepRunsAPortTickAsTick : Obligations.StepRunsAPortTickAsTick := by
  intro s dt ms hinbox
  obtain ⟨-, hrun, -⟩ := step_cons s (.portTick dt) ms hinbox
  have hstep := hrun (.tick dt) (fetchMove_portTick dt)
  refine ⟨tickWord_eq_append dt, decode_tickWord dt, hstep, ?_⟩
  rw [hstep, exec_wr_cmd, execCommandWord_of_legal (decodeCommand_tickWord dt)]
  rfl

theorem toNat_truncEnc (wEnc v : Word) : (truncEnc wEnc v).toNat = v.toNat % 2 ^ wEnc.toNat % 2 ^ 32 :=
  BitVec.toNat_ofNat _ _

theorem PerWheel.get_set_self {α : Type} (p : PerWheel α) (w : WheelId) (a : α) : (p.set w a).get w = a := by
  rw [PerWheel.get_set, if_pos rfl]

theorem PerWheel.get_set_of_ne {α : Type} (p : PerWheel α) {w w' : WheelId} (h : w' ≠ w) (a : α) :
    (p.set w a).get w' = p.get w' := by
  rw [PerWheel.get_set, if_neg h]

/-- Settles O18: the move is taken and the named channel set, which leaves the others. -/
theorem environmentMovesChangeOnlyTheChannel : Obligations.EnvironmentMovesChangeOnlyTheChannel := by
  intro s w v ms
  constructor
  · intro hinbox
    obtain ⟨-, -, -, hencoder, -⟩ := step_cons s (.setEncoder w v) ms hinbox
    refine ⟨s.channels.set w { s.channel w with encCnt := truncEnc s.params.wEnc v }, hencoder w v rfl, ?_, ?_,
      fun w' hw => PerWheel.get_set_of_ne _ hw _⟩
    · rw [PerWheel.get_set_self, toNat_truncEnc]
    · rw [PerWheel.get_set_self]
  · intro hinbox
    obtain ⟨-, -, -, -, hcurrent, -⟩ := step_cons s (.setCurrent w v) ms hinbox
    refine ⟨s.channels.set w { s.channel w with iWind := v }, hcurrent w v rfl, ?_, ?_,
      fun w' hw => PerWheel.get_set_of_ne _ hw _⟩ <;> rw [PerWheel.get_set_self]

end Sys2Proof.Machine
end

section
/-! Conservation of the accumulator (spec/40_accumulator.md R143): what a window holds after some pushes is stated of the
pushed samples as a whole, kept by one push, and so by any number of them. -/

namespace Sys2Proof.Machine

/-! The last samples of a list. -/

theorem rtake_of_length_le {α : Type} {l : List α} {n : Nat} (h : l.length ≤ n) : l.rtake n = l := by
  rw [List.rtake, Nat.sub_eq_zero_of_le h, List.drop_zero]

/-- What was too old before an append is too old after it. -/
theorem rtake_append_rtake {α : Type} (l m : List α) (n : Nat) : (l.rtake n ++ m).rtake n = (l ++ m).rtake n := by
  obtain h | h : l.length ≤ n ∨ n ≤ l.length := Nat.le_total _ _
  · rw [rtake_of_length_le h]
  · have hdrop : l.length + m.length - n = (l.length - n) + m.length := by omega
    have hkept : l.length - (l.length - n) + m.length - n = m.length := by omega
    simp only [List.rtake, List.length_append, List.length_drop, hdrop, hkept]
    rw [← List.drop_drop, List.drop_append_of_le_length (Nat.sub_le _ _)]

/-! One push. -/

theorem storedSamples_of_count_eq_zero (winN : Word) {x : Wheel} (h : x.count = 0) : storedSamples winN x = [] := by
  simp [storedSamples, h]

/-- AccPush appends its sample and keeps the last `WIN_N`. -/
theorem storedSamples_accPush {winN : Word} {x : Wheel} (h : WindowShape winN x) (smp : Sample) :
    storedSamples winN (accPush winN x smp).1 = (storedSamples winN x ++ [smp]).rtake winN.toNat := by
  have hlen := length_storedSamples winN x
  obtain hlt | hfull := Nat.lt_or_ge x.count.toNat winN.toNat
  · rw [storedSamples_accPush_filling h smp hlt, rtake_of_length_le]
    rw [List.length_append, hlen]
    exact hlt
  · obtain ⟨rest, hold, hnew⟩ := storedSamples_accPush_full h smp hfull
    obtain ⟨-, hcount, -⟩ := h
    rw [hold, List.length_cons] at hlen
    have hone : rest.length + 1 + 1 - winN.toNat = 1 := by omega
    simp [hold, hnew, List.rtake, hone]

/-- What is stored after a push together with what it returned is what was stored before together with the sample, in any
sum over the samples. -/
theorem sum_storedSamples_accPush {winN : Word} {x : Wheel} (h : WindowShape winN x) (smp : Sample) {f : Sample → Word}
    (hf : f zeroSample = 0) :
    ((storedSamples winN (accPush winN x smp).1).map f).sum =
      ((storedSamples winN x).map f).sum + f smp - f (accPush winN x smp).2 := by
  obtain ⟨rest, hnew, ⟨hzero, hold⟩ | hold⟩ := accPush_stored h smp
  · simp [hnew, hold, hzero, hf]
  · simp only [hnew, hold, List.map_append, List.map_cons, List.map_nil, List.sum_append, List.sum_cons, List.sum_nil]
    ring

/-! Any pushes. -/

/-- The wheel and the caller's running sums after the pushes of `pushed`: the window holds the last of them, and the sums
are theirs. -/
structure HoldsLast (winN : Word) (pushed : List Sample) (x : Wheel) (d t : Word) : Prop where
  shape : WindowShape winN x
  stored : storedSamples winN x = pushed.rtake winN.toNat
  deltas : d = sumDeltas (storedSamples winN x)
  times : t = ((storedSamples winN x).map Sample.t).sum

theorem HoldsLast.of_empty {winN : Word} {x : Wheel} (h : WindowShape winN x) (hcount : x.count = 0) :
    HoldsLast winN [] x 0 0 := by
  have hstored := storedSamples_of_count_eq_zero winN hcount
  exact ⟨h, by rw [hstored, List.rtake_nil], by rw [hstored]; rfl, by rw [hstored]; rfl⟩

section

variable {winN : Word} {pushed : List Sample} {x : Wheel} {d t : Word}

theorem HoldsLast.push (h : HoldsLast winN pushed x d t) (smp : Sample) :
    HoldsLast winN (pushed ++ [smp]) (accPush winN x smp).1 (d + smp.d - (accPush winN x smp).2.d)
      (t + smp.t - (accPush winN x smp).2.t) := by
  obtain ⟨hshape, hstored, rfl, rfl⟩ := h
  refine ⟨accPush_shape hshape smp, ?_, ?_, ?_⟩
  · rw [storedSamples_accPush hshape, hstored, rtake_append_rtake]
  · exact (sum_storedSamples_accPush hshape smp rfl).symm
  · exact (sum_storedSamples_accPush hshape smp rfl).symm

theorem HoldsLast.pushAll (h : HoldsLast winN pushed x d t) (l : List Sample) :
    HoldsLast winN (pushed ++ l) (pushAll winN l (x, d, t)).1 (pushAll winN l (x, d, t)).2.1
      (pushAll winN l (x, d, t)).2.2 := by
  induction l generalizing pushed x d t with
  | nil => rwa [List.append_nil]
  | cons smp rest ih =>
    rw [List.append_cons]
    exact ih (h.push smp)

end

/-- Settles O38: an empty window holds the last of no pushes, and each push keeps what it holds. -/
theorem accumulatorConservation : Obligations.AccumulatorConservation := by
  intro winN x l _ _ hshape hcount
  obtain ⟨-, hstored, hdeltas, htimes⟩ := (HoldsLast.of_empty hshape hcount).pushAll l
  rw [List.nil_append] at hstored
  refine ⟨hstored, ?_, hdeltas, htimes⟩
  rw [hstored, List.rtake, List.length_drop]
  omega

end Sys2Proof.Machine
end

section
/-! The regulator's host commands (spec/41_pid.md R167 to R173): each writes a part of one wheel. -/

namespace Sys2Proof.Machine

theorem onWheel_frame (w : WheelId) (f : Wheel → Wheel) (s : State) :
    onWheel w f s = { s with wheels := (onWheel w f s).wheels } := rfl

theorem exec_pidReset_accepted {s : State} (hready : s.status.ready = true) (w : WheelId) :
    exec (.pidReset w) s = .next (onWheel w pidReset s) := by
  simp [exec, execPidReset, hready]

theorem exec_pidSetCoeffs_accepted {s : State} (hready : s.status.ready = true) (h0 : f32IsFinite s.arg0 = true)
    (h1 : f32IsFinite s.arg1 = true) (h2 : f32IsFinite s.arg2 = true) (w : WheelId) :
    exec (.pidSetCoeffs w) s = .next (onWheel w (pidSetCoeffs s.arg0 s.arg1 s.arg2) s) := by
  simp [exec, execPidSetCoeffs, hready, h0, h1, h2]

theorem exec_pidSetRange_accepted {s : State} (hready : s.status.ready = true)
    (hceil : s.arg0.toNat ≤ s.params.pwmCeil.toNat) (w : WheelId) :
    exec (.pidSetRange w) s = .next (onWheel w (pidSetRange (u2f s.arg0)) s) := by
  simp [exec, execPidSetRange, hready, Nat.not_lt.mpr hceil]

/-- Settles O33: the accepted command is PidReset on one wheel. -/
theorem pidResetClearsOneRegulator : Obligations.PidResetClearsOneRegulator := fun s w hready =>
  ⟨_, exec_pidReset_accepted hready w, onWheel_frame w _ s, onWheel_wheel w _ s⟩

/-- Settles O34: the accepted command is PidSetCoeffs on one wheel. -/
theorem pidSetCoeffsWritesThreeGains : Obligations.PidSetCoeffsWritesThreeGains := fun s w hready h0 h1 h2 =>
  ⟨_, exec_pidSetCoeffs_accepted hready h0 h1 h2 w, onWheel_frame w _ s, onWheel_wheel w _ s⟩

theorem f32IsFinite_u2f (n : Word) (h : n.toNat ≤ 2 ^ 24) : f32IsFinite (u2f n) = true :=
  f32IsFinite_of_mag (f32IsNaN_u2f n) (by rw [f32Mag_u2f n h]; exact Nat.mul_le_mul_right _ h)

/-- Settles O35: up to 2^24, and so up to every legal `PWM_CEIL`, an integer converts exactly. -/
theorem pidSetRangeWritesOneBound : Obligations.PidSetRangeWritesOneBound := by
  rintro s w ⟨-, ⟨-, hlegal⟩, -⟩ hready hceil
  have hexact : s.arg0.toNat ≤ 2 ^ 24 := hceil.trans hlegal
  refine ⟨_, u2f s.arg0, exec_pidSetRange_accepted hready hceil w, onWheel_frame w _ s, onWheel_wheel w _ s,
    f32IsFinite_u2f s.arg0 hexact, f32Sign_u2f s.arg0, ?_⟩
  rw [f32Units_u2f s.arg0 hexact]
  norm_cast

end Sys2Proof.Machine
end

section
/-! Output saturation (spec/41_pid.md R166, R174). -/

namespace Sys2Proof.Machine

theorem f32Lt_eq_false_iff (a b : Word) (ha : f32IsNaN a = false) (hb : f32IsNaN b = false) :
    f32Lt a b = false ↔ f32Units b ≤ f32Units a := by
  rw [Bool.eq_false_iff, ne_eq, f32Lt_iff a b ha hb, Int.not_lt]

/-- An output as R166 promises it: no NaN, and in [-limit, +limit]. -/
def WithinBound (out limit : Word) : Prop :=
  f32IsNaN out = false ∧ f32Gt out limit = false ∧ f32Lt out (f32Negate limit) = false

/-! The four branches of Clamp (R166). -/

section

variable {sum limit : Word}

theorem clampOutput_of_nan (hsum : f32IsNaN sum = true) : clampOutput sum limit = 0 := by
  simp [clampOutput, hsum]

theorem clampOutput_of_above (hsum : f32IsNaN sum = false) (habove : f32Gt sum limit = true) :
    clampOutput sum limit = limit := by
  simp [clampOutput, hsum, habove]

theorem clampOutput_of_within (hsum : f32IsNaN sum = false) (habove : f32Gt sum limit = false)
    (hbelow : f32Lt sum (f32Negate limit) = false) : clampOutput sum limit = sum := by
  simp [clampOutput, hsum, habove, hbelow]

/-- With a bound that is no less than 0 the two outer branches exclude each other. -/
theorem clampOutput_of_below (hlimit : f32IsNaN limit = false) (hnonneg : 0 ≤ f32Units limit)
    (hsum : f32IsNaN sum = false) (hbelow : f32Lt sum (f32Negate limit) = true) :
    clampOutput sum limit = f32Negate limit := by
  have habove : f32Gt sum limit = false := by
    rw [f32Lt_iff _ _ hsum (by rwa [f32IsNaN_negate]), f32Units_negate] at hbelow
    rw [f32Gt, f32Lt_eq_false_iff _ _ hlimit hsum]
    omega
  simp [clampOutput, hsum, habove, hbelow]

theorem withinBound_iff {out : Word} (hlimit : f32IsNaN limit = false) (hout : f32IsNaN out = false) :
    WithinBound out limit ↔ f32Units out ≤ f32Units limit ∧ -f32Units limit ≤ f32Units out := by
  rw [WithinBound, and_iff_right hout, f32Gt, f32Lt_eq_false_iff _ _ hlimit hout,
    f32Lt_eq_false_iff _ _ hout (by rwa [f32IsNaN_negate]), f32Units_negate]

/-- In each branch the saturated output is within its bound, which may be -0.0 or an infinity. -/
theorem withinBound_clampOutput (sum : Word) (hlimit : f32IsNaN limit = false) (hnonneg : 0 ≤ f32Units limit) :
    WithinBound (clampOutput sum limit) limit := by
  cases hsum : f32IsNaN sum with
  | true =>
    rw [clampOutput_of_nan hsum, withinBound_iff hlimit (by decide), show f32Units 0 = 0 by decide]
    omega
  | false =>
    cases habove : f32Gt sum limit with
    | true =>
      rw [clampOutput_of_above hsum habove, withinBound_iff hlimit hlimit]
      omega
    | false =>
      cases hbelow : f32Lt sum (f32Negate limit) with
      | true =>
        rw [clampOutput_of_below hlimit hnonneg hsum hbelow, withinBound_iff hlimit (by rwa [f32IsNaN_negate]),
          f32Units_negate]
        omega
      | false =>
        rw [clampOutput_of_within hsum habove hbelow]
        exact ⟨hsum, habove, hbelow⟩

end

/-- Settles O42, branch by branch. -/
theorem clampSaturates : Obligations.ClampSaturates := by
  intro sum L hlimit hlt
  have hnonneg : 0 ≤ f32Units L := (f32Lt_eq_false_iff L 0 hlimit (by decide)).mp hlt
  obtain ⟨hnan, hle, hge⟩ := withinBound_clampOutput sum hlimit hnonneg
  exact ⟨hnan, hle, hge, clampOutput_of_nan, clampOutput_of_above, clampOutput_of_below hlimit hnonneg,
    clampOutput_of_within⟩

theorem f32Units_u2f_nonneg (n : Word) : 0 ≤ f32Units (u2f n) := by
  simp [f32Units, f32Sign_u2f]

/-- The order of integers up to 2^24 is the order of their conversions. -/
theorem f32Gt_u2f_eq_false {m n : Word} (hm : m.toNat ≤ n.toNat) (hn : n.toNat ≤ 2 ^ 24) :
    f32Gt (u2f m) (u2f n) = false := by
  rw [f32Gt, f32Lt_eq_false_iff _ _ (f32IsNaN_u2f n) (f32IsNaN_u2f m), f32Units_u2f n hn, f32Units_u2f m (hm.trans hn)]
  omega

theorem PowerSafe.limitWithinCeil {p : Params} {x : Wheel} (h : PowerSafe p.pwmCeil x) :
    LimitWithinCeil p x.pidLimit := by
  obtain ⟨n, hn, hlimit⟩ := h.limit
  exact ⟨BitVec.ofNat 32 n, (Nat.mod_le _ _).trans hn, hlimit⟩

theorem LimitWithinCeil.withinBound_pidOutput {p : Params} {x : Wheel} (h : LimitWithinCeil p x.pidLimit) (e : Word)
    (dt : Half) : WithinBound (pidOutput x e dt) x.pidLimit := by
  obtain ⟨n, -, hlimit⟩ := h
  rw [pidOutput, hlimit]
  exact withinBound_clampOutput _ (f32IsNaN_u2f n) (f32Units_u2f_nonneg n)

/-- Settles O43: the bound is an integer within `PWM_CEIL`, and the output is within the bound. -/
theorem pidOutputStaysInRange : Obligations.PidOutputStaysInRange := by
  rintro s w e dt ⟨⟨-, ⟨-, hceil⟩, -⟩, hsafe⟩
  have hbound := (hsafe w).limitWithinCeil
  obtain ⟨hnan, hle, hge⟩ := hbound.withinBound_pidOutput e dt
  obtain ⟨n, hn, hlimit⟩ := hbound
  refine ⟨hnan, hle, hge, ?_, (natAbs_toInt_pidOutput _ e dt hlimit (hn.trans hceil)).trans hn⟩
  rw [hlimit]
  exact f32Gt_u2f_eq_false hn hceil

end Sys2Proof.Machine
end

section
/-! The three branches of WheelUpdate (spec/42_wheel.md R197 to R199). -/

namespace Sys2Proof.Machine

theorem accPush_keeps_target_and_gains (winN : Word) (x : Wheel) (smp : Sample) :
    (accPush winN x smp).1.targetTps = x.targetTps ∧ (accPush winN x smp).1.pidKp = x.pidKp ∧
      (accPush winN x smp).1.pidKi = x.pidKi ∧ (accPush winN x smp).1.pidKd = x.pidKd := by
  obtain ⟨-, h⟩ | ⟨-, h⟩ := accPush_cases winN x smp <;> rw [h] <;> exact ⟨rfl, rfl, rfl, rfl⟩

/-- The measuring part of a tick keeps the target and the gains. -/
theorem wheelMeasure_keeps_target_and_gains (p : Params) (x : Wheel) (dt : Half) (raw : Word) :
    (wheelMeasure p x dt raw).targetTps = x.targetTps ∧ (wheelMeasure p x dt raw).pidKp = x.pidKp ∧
      (wheelMeasure p x dt raw).pidKi = x.pidKi ∧ (wheelMeasure p x dt raw).pidKd = x.pidKd := by
  simp only [wheelMeasure, wheelPush, accPush_keeps_target_and_gains, and_self]

/-- The regulation step keeps what the tick measured. -/
theorem wheelRegulate_keeps_measurement (x : Wheel) (dt : Half) :
    (wheelRegulate x dt).velTps = x.velTps ∧ (wheelRegulate x dt).standstill = x.standstill := by
  obtain ⟨-, h⟩ | ⟨-, -, h⟩ | ⟨-, -, h⟩ := wheelRegulate_cases x dt <;> rw [h] <;> exact ⟨rfl, rfl⟩

/-- NUMERR is set by a regulating wheel whose output sum is a NaN, and by nothing else. -/
theorem wheelUpdateNumErr_iff (p : Params) (x : Wheel) (dt : Half) (raw : Word) :
    wheelUpdateNumErr p x dt raw = true ↔
      (x.en = true ∧ (wheelUpdate p x dt raw).standstill = false) ∧
        f32IsNaN (pidSum (wheelMeasure p x dt raw) (wheelError (wheelMeasure p x dt raw)) dt) = true := by
  obtain ⟨hen, -⟩ := wheelMeasure_keeps p x dt raw
  obtain ⟨-, hstand⟩ := wheelRegulate_keeps_measurement (wheelMeasure p x dt raw) dt
  simp only [wheelUpdateNumErr, regulates, pidSumIsNaN, wheelUpdate, hen, hstand, Bool.and_eq_true,
    Bool.not_eq_true']

/-- Settles O41, by the branches of the regulation step on the measured wheel. -/
theorem wheelUpdateRegulates : Obligations.WheelUpdateRegulates := by
  intro p x dt raw u e dtf integ d sum
  obtain ⟨hen, hpower, hlimit, hinteg, hprev⟩ := wheelMeasure_keeps p x dt raw
  obtain ⟨htarget, hkp, hki, hkd⟩ := wheelMeasure_keeps_target_and_gains p x dt raw
  obtain ⟨hvel, hstand⟩ := wheelRegulate_keeps_measurement (wheelMeasure p x dt raw) dt
  have herror : wheelError (wheelMeasure p x dt raw) = e := by rw [wheelError, htarget, ← hvel]; rfl
  have hnext : pidIntegralNext (wheelMeasure p x dt raw) e dt = integ := by
    rw [pidIntegralNext, hinteg, zext16_eq_setWidth]
  have hsum : pidSum (wheelMeasure p x dt raw) e dt = sum := by
    rw [pidSum, pidProportional, pidDerivative, hnext, hkp, hki, hkd, hprev, zext16_eq_setWidth]
  have hnumErr := wheelUpdateNumErr_iff p x dt raw
  rw [herror, hsum] at hnumErr
  have hcases := wheelRegulate_cases (wheelMeasure p x dt raw) dt
  rw [herror, hnext, pidOutput, hsum, hlimit, hen, ← hstand] at hcases
  refine ⟨fun hdis => ?_, fun hena hstill => ?_, fun hena hmoving => ?_, fun h => (hnumErr.mp h).left⟩
  · obtain ⟨-, h⟩ | ⟨h, -⟩ | ⟨h, -⟩ := hcases
    · rw [show u = _ from h]
      exact ⟨hpower, hinteg, hprev⟩
    all_goals simp [hdis] at h
  · obtain ⟨h, -⟩ | ⟨-, -, h⟩ | ⟨-, h, -⟩ := hcases
    · simp [hena] at h
    · rw [show u = _ from h]
      exact ⟨rfl, rfl, rfl⟩
    · exact absurd (hstill.symm.trans h) (by decide)
  · obtain ⟨h, -⟩ | ⟨-, h, -⟩ | ⟨-, -, h⟩ := hcases
    · simp [hena] at h
    · exact absurd (hmoving.symm.trans h) (by decide)
    · rw [show u = _ from h]
      exact ⟨rfl, rfl, rfl, hnumErr.trans (and_iff_right ⟨hena, hmoving⟩)⟩

end Sys2Proof.Machine
end

section
/-! The wheel commands (spec/42_wheel.md R200 to R203, R208 to R211; spec/43_diffdrive.md R243, R244): an operation on the
wheels a command names, which leaves the others and all else, and the readout of one wheel. -/

namespace Sys2Proof.Machine

/-! Operations on the wheels a command names. -/

/-- The operation was done on the chosen wheels, and nothing else was. -/
def DoneOnChosen (chosen : WheelId → Bool) (f : Wheel → Wheel) (s t : State) : Prop :=
  t = { s with wheels := t.wheels } ∧ ∀ w, t.wheel w = if chosen w = true then f (s.wheel w) else s.wheel w

theorem doneOnChosen_onWheels (f : Wheel → Wheel) (s : State) :
    DoneOnChosen (fun _ => true) f s (onWheels f s) :=
  ⟨rfl, fun w => by rw [if_pos rfl, onWheels_wheel]⟩

theorem doneOnChosen_onWheel (v : WheelId) (f : Wheel → Wheel) (s : State) :
    DoneOnChosen (fun w => decide (w = v)) f s (onWheel v f s) :=
  ⟨onWheel_frame v f s, fun w => by simp only [onWheel_wheel_eq, decide_eq_true_eq]⟩

theorem exec_enableAll_accepted {s : State} (hready : s.status.ready = true) :
    exec .enableAll s = .next (onWheels wheelEnable s) := by
  simp [exec, execEnableAll, hready]

theorem exec_wEnable_accepted {s : State} (hready : s.status.ready = true) (w : WheelId) :
    exec (.wEnable w) s = .next (onWheel w wheelEnable s) := by
  simp [exec, execWEnable, hready]

theorem exec_wSetTarget_accepted {s : State} (hready : s.status.ready = true) (h0 : f32IsFinite s.arg0 = true)
    (w : WheelId) : exec (.wSetTarget w) s = .next (onWheel w (wheelSetTarget s.cfg.ticksPerRad s.arg0) s) := by
  simp [exec, execWSetTarget, hready, h0]

/-- Settles O29: both commands are Enable on the chosen wheels, and Enable acts on Disabled wheels only. -/
theorem enableResetsOnlyDisabledWheels : Obligations.EnableResetsOnlyDisabledWheels := by
  intro s chosen i hready hi
  obtain ⟨t, hexec, hframe, hwheel⟩ : ∃ t, exec i s = .next t ∧ DoneOnChosen chosen wheelEnable s t := by
    obtain ⟨rfl, rfl⟩ | ⟨v, rfl, rfl⟩ := hi
    · exact ⟨_, exec_enableAll_accepted hready, doneOnChosen_onWheels _ s⟩
    · exact ⟨_, exec_wEnable_accepted hready v, doneOnChosen_onWheel v _ s⟩
  refine ⟨t, hexec, hframe, fun w => ?_⟩
  rw [hwheel w]
  obtain ⟨hen, h⟩ | ⟨hen, h⟩ := wheelEnable_cases (s.wheel w) <;> simp [hen, h]

/-- A Disabled wheel without power drives nothing, whatever its polarity (spec/10_state.md R56). -/
theorem ports_of_wheelDisable {t : State} {w : WheelId} {x : Wheel} (h : t.wheel w = wheelDisable x) :
    pwrOut t w = 0 ∧ drvEn t w = false := by
  simp [pwrOut, drvEn, h, wheelDisable]

/-- Settles O30: both commands are Disable on the chosen wheels, in every phase. -/
theorem disableZeroesPower : Obligations.DisableZeroesPower := by
  refine ⟨fun s w => ⟨rfl, rfl⟩, fun s chosen i hi => ?_⟩
  obtain ⟨t, hexec, hframe, hwheel⟩ : ∃ t, exec i s = .next t ∧ DoneOnChosen chosen wheelDisable s t := by
    obtain ⟨rfl, rfl⟩ | ⟨v, rfl, rfl⟩ := hi
    · exact ⟨_, rfl, doneOnChosen_onWheels _ s⟩
    · exact ⟨_, rfl, doneOnChosen_onWheel v _ s⟩
  exact ⟨t, hexec, hframe, fun w => ⟨hwheel w, fun hw => ports_of_wheelDisable ((hwheel w).trans (if_pos hw))⟩⟩

/-- Settles O31: the accepted command is SetTarget on one wheel. -/
theorem wSetTargetWritesOneTarget : Obligations.WSetTargetWritesOneTarget := fun s w hready h0 =>
  ⟨_, exec_wSetTarget_accepted hready h0 w, onWheel_frame w _ s, onWheel_wheel w _ s⟩

/-! The readout of one wheel. -/

theorem getEnabled_eq (s : State) (w : WheelId) : getEnabled s w = if (s.wheel w).en then 1 else 0 := by
  cases h : (s.wheel w).en <;> simp [getEnabled, flagBit, h]

/-- The readout fills the five registers from `base` on, and no other. -/
theorem getElem_readoutInto (s : State) (w : WheelId) (base : Nat) (r : Vector Word 20) (k : Nat) (hk : k < 20) :
    (readoutInto s w base r)[k] =
      if k = base then getVelocity s w else if k = base + 1 then getDistance s w
      else if k = base + 2 then getTorque s w else if k = base + 3 then getDuty s w
      else if k = base + 4 then getEnabled s w else r[k] := by
  simp only [readoutInto, Vector.getElem_setIfInBounds hk]
  grind

/-- Settles O32: the readout into RES from 0 on. -/
theorem wGetStateReadsOneWheel : Obligations.WGetStateReadsOneWheel := by
  intro s w hready
  refine ⟨readoutInto s w 0 s.res, by simp [exec, execWGetState, hready, State.setRes], ?_, fun k hk => ?_⟩
  · simp [getElem_readoutInto, getVelocity, getDistance, getTorque, sampleIWind, getDuty, f32Hundred, getEnabled_eq]
  · rw [Fin.getElem_fin, getElem_readoutInto]
    repeat rw [if_neg (by omega)]
    rfl

end Sys2Proof.Machine
end

section
/-! What a tick measures (spec/42_wheel.md R192 to R196). -/

namespace Sys2Proof.Machine

/-! The tick delta (R193). -/

/-- Sign extension from W_ENC bits is reduction into the balanced range. -/
theorem toInt_sextEnc {wEnc : Word} (hpos : 1 ≤ wEnc.toNat) (hle : wEnc.toNat ≤ 32) (v : Word) :
    (sextEnc wEnc v).toInt = (v.toNat : Int).bmod (2 ^ wEnc.toNat) := by
  obtain ⟨k, hk⟩ : ∃ k, wEnc.toNat = k + 1 := ⟨wEnc.toNat - 1, by omega⟩
  have hhalf : 2 ^ k ≤ 2 ^ 31 := Nat.pow_le_pow_right (by decide) (by omega)
  have hmod := Nat.mod_lt v.toNat (Nat.two_pow_pos (k + 1))
  rw [sextEnc, Int.bmod_def, hk, ← Int.natCast_mod]
  rw [pow_succ] at hmod ⊢
  generalize v.toNat % (2 ^ k * 2) = m at hmod ⊢
  generalize 2 ^ k = half at hhalf hmod ⊢
  split
  · rw [if_pos (by omega), ← BitVec.ofInt_natCast]
    exact BitVec.toInt_ofInt_eq_self (by decide) (by omega) (by omega)
  · rw [if_neg (by omega)]
    exact BitVec.toInt_ofInt_eq_self (by decide) (by omega) (by omega)

theorem toNat_truncEnc_eq_mod (wEnc v : Word) : (truncEnc wEnc v).toNat = v.toNat % 2 ^ wEnc.toNat := by
  rw [toNat_truncEnc]
  exact Nat.mod_eq_of_lt ((Nat.mod_le _ _).trans_lt v.isLt)

/-- A difference of words is the difference of the numbers in any balanced range of at most 32 bits. -/
theorem bmod_toNat_sub (a b : Word) {k : Nat} (hk : k ≤ 32) :
    ((a - b).toNat : Int).bmod (2 ^ k) = ((a.toNat : Int) - b.toNat).bmod (2 ^ k) := by
  have hdvd : 2 ^ k ∣ 2 ^ 32 := Nat.pow_dvd_pow 2 hk
  have hword : ((a - b).toNat : Int).bmod (2 ^ 32) = ((a.toNat : Int) - b.toNat).bmod (2 ^ 32) := by
    rw [← BitVec.toInt_eq_toNat_bmod, BitVec.toInt_sub, BitVec.toInt_eq_toNat_bmod, BitVec.toInt_eq_toNat_bmod,
      Int.bmod_sub_bmod, Int.sub_bmod_bmod]
  rw [← Int.bmod_bmod_of_dvd hdvd, hword, Int.bmod_bmod_of_dvd hdvd]

/-- Settles O39: reduction into the balanced range stays in it and drops a multiple of 2^W_ENC. -/
theorem tickDeltaIsTheReducedMovement : Obligations.TickDeltaIsTheReducedMovement := by
  intro wEnc cnt prev hge hle delta
  have hdelta : delta = ((cnt.toNat : Int) - prev.toNat).bmod (2 ^ wEnc.toNat) := by
    rw [← bmod_toNat_sub cnt prev hle, ← Int.emod_bmod, ← Int.natCast_mod, ← toNat_truncEnc_eq_mod,
      ← toInt_sextEnc (by omega) hle]
  obtain ⟨k, hk⟩ : ∃ k, wEnc.toNat = k + 1 := ⟨wEnc.toNat - 1, by omega⟩
  have hpos : 0 < 2 ^ wEnc.toNat := Nat.two_pow_pos _
  have hlt := Int.bmod_lt (x := (cnt.toNat : Int) - prev.toNat) hpos
  have hge := Int.le_bmod (x := (cnt.toNat : Int) - prev.toNat) hpos
  have hhalf : ((2 ^ wEnc.toNat : Nat) : Int) = 2 * 2 ^ (wEnc.toNat - 1) := by
    rw [hk, Nat.add_sub_cancel]
    push_cast
    ring
  rw [← hdelta, hhalf] at hlt hge
  refine ⟨by omega, by omega, ((cnt.toNat : Int) - prev.toNat).bdiv (2 ^ wEnc.toNat), ?_⟩
  rw [hdelta, Int.bmod_eq_self_sub_mul_bdiv, mul_comm]
  push_cast
  rfl

/-! The whole measurement. -/

/-- AccPush reads and moves the window only, whatever stands in ENC_PREV. -/
theorem accPush_of_encPrev (winN : Word) (x : Wheel) (cnt : Word) (smp : Sample) :
    accPush winN { x with encPrev := cnt } smp =
      ({ (accPush winN x smp).1 with encPrev := cnt }, (accPush winN x smp).2) := by
  by_cases h : x.count.toNat < winN.toNat <;> simp [accPush, h, bufWrite, bufRead]

theorem accPush_keeps_polarity (winN : Word) (x : Wheel) (smp : Sample) :
    (accPush winN x smp).1.motPol = x.motPol ∧ (accPush winN x smp).1.encPol = x.encPol := by
  obtain ⟨-, h⟩ | ⟨-, h⟩ := accPush_cases winN x smp <;> rw [h] <;> exact ⟨rfl, rfl⟩

/-- The regulation step writes the power and the regulator's memory only. -/
theorem wheelRegulate_frame (x : Wheel) (dt : Half) :
    ∃ power integ prev, wheelRegulate x dt = { x with power := power, pidInteg := integ, pidPrev := prev } := by
  obtain ⟨-, h⟩ | ⟨-, -, h⟩ | ⟨-, -, h⟩ := wheelRegulate_cases x dt <;> exact ⟨_, _, _, h⟩

/-- What a tick measures, around one push of the delta. -/
theorem wheelMeasure_eq (p : Params) (x : Wheel) (dt : Half) (raw : Word) :
    let cnt := correctedCount p.wEnc x raw
    let delta := tickDelta p.wEnc x cnt
    let push := accPush p.winN x ⟨delta, zext16 dt⟩
    let tickSum := x.tickSum + delta - push.2.d
    let timeSum := x.timeSum + zext16 dt - push.2.t
    wheelMeasure p x dt raw =
      { push.1 with
        encPrev := cnt
        tickSum := tickSum
        timeSum := timeSum
        distTicks := x.distTicks + delta
        velTps := velocityEstimate tickSum timeSum
        standstill := f32Eq (velocityEstimate tickSum timeSum) 0 && f32Eq push.1.targetTps 0 } := by
  simp only [wheelMeasure, wheelPush, standstillNow, accPush_of_encPrev]

/-- Settles O40: the regulation step leaves what was measured, and AccPush all but the window. -/
theorem wheelUpdateMeasures : Obligations.WheelUpdateMeasures := by
  intro p x dt raw u cnt delta push
  obtain ⟨power, integ, prev, hregulate⟩ := wheelRegulate_frame (wheelMeasure p x dt raw) dt
  obtain ⟨hen, -, hlimit, -⟩ := accPush_keeps p.winN x ⟨delta, dt.setWidth 32⟩
  obtain ⟨htarget, hkp, hki, hkd⟩ := accPush_keeps_target_and_gains p.winN x ⟨delta, dt.setWidth 32⟩
  obtain ⟨hmot, henc⟩ := accPush_keeps_polarity p.winN x ⟨delta, dt.setWidth 32⟩
  rw [show u = _ from hregulate, wheelMeasure_eq, zext16_eq_setWidth]
  refine ⟨⟨rfl, rfl, rfl, rfl⟩, ⟨rfl, rfl, rfl⟩, rfl, ?_, hen, hmot, henc, htarget, hkp, hki, hkd, hlimit⟩
  rw [← htarget]
  exact Bool.and_eq_true_iff

end Sys2Proof.Machine
end

section
/-! The velocity estimate (spec/42_wheel.md R195): rounding keeps the order of a number and a value, so the powers of two
around the operands bound every intermediate result away from zero and from the infinities. -/

namespace Sys2Proof.Machine

/-! Rounding and the order. -/

/-- A value that is no greater than the number is no greater than its rounding. -/
theorem le_f32RoundLow {low num den : Nat} (hden : 0 < den) (hinf : low ≤ infLow) (h : lowMag low * den ≤ num) :
    low ≤ f32RoundLow num den := by
  obtain ⟨l, r, ⟨below, above, nearer, -⟩, hround⟩ := f32RoundLow_nearer num den hden
  have hlow : low < l + 1 := lowMag_strictMono.lt_iff_lt.mp (Nat.lt_of_mul_lt_mul_right (h.trans_lt above))
  rw [hround]
  omega

/-- A value that is no less than the number is no less than its rounding: on that value itself, the nearer neighbour is the
lower one. -/
theorem f32RoundLow_le {low num den : Nat} (hden : 0 < den) (h : num ≤ lowMag low * den) :
    f32RoundLow num den ≤ low := by
  obtain ⟨l, r, ⟨below, above, nearer, -⟩, hround⟩ := f32RoundLow_nearer num den hden
  have hle : l ≤ low := lowMag_strictMono.le_iff_le.mp (Nat.le_of_mul_le_mul_right (below.trans h) hden)
  rw [hround]
  obtain rfl | hlt := hle.eq_or_lt <;> omega

theorem f32Mag_round (neg : Bool) (num den : Nat) : f32Mag (f32Round neg num den) = lowMag (f32RoundLow num den) := by
  rw [f32Mag_eq_lowMag, f32Round_eq, f32Low_pack _ _ (f32RoundLow_lt num den)]

/-- Every power of two up to 2^255 units is a value. -/
theorem exists_lowMag_two_pow {k : Nat} (hk : k ≤ 255) : ∃ low, low ≤ infLow ∧ lowMag low = 2 ^ k := by
  obtain ⟨low, hlow⟩ := exists_lowMag_eq k 1 (by decide)
  rw [Nat.one_mul] at hlow
  refine ⟨low, lowMag_strictMono.le_iff_le.mp ?_, hlow⟩
  rw [hlow, lowMag_infLow]
  exact (Nat.pow_le_pow_right (by decide) hk).trans (by decide)

/-- The magnitude is between two powers of two, in units of 2^-149. -/
def MagBetween (lo hi : Nat) (x : Word) : Prop :=
  2 ^ lo ≤ f32Mag x ∧ f32Mag x ≤ 2 ^ hi

theorem MagBetween.round {lo hi num den : Nat} (neg : Bool) (hden : 0 < den) (hlo : lo ≤ 255) (hhi : hi ≤ 255)
    (hge : 2 ^ lo * den ≤ num) (hle : num ≤ 2 ^ hi * den) : MagBetween lo hi (f32Round neg num den) := by
  obtain ⟨a, ha, hlo⟩ := exists_lowMag_two_pow hlo
  obtain ⟨b, -, hhi⟩ := exists_lowMag_two_pow hhi
  rw [← hlo] at hge
  rw [← hhi] at hle
  rw [MagBetween, f32Mag_round, ← hlo, ← hhi]
  exact ⟨lowMag_strictMono.monotone (le_f32RoundLow hden ha hge), lowMag_strictMono.monotone (f32RoundLow_le hden hle)⟩

section

variable {lo hi lo' hi' : Nat} {x y : Word}

/-- The NaNs and the infinities have larger magnitudes than 2^255 units. -/
theorem MagBetween.finite (h : MagBetween lo hi x) (hhi : hi ≤ 255) : f32IsFinite x = true := by
  obtain ⟨-, hle⟩ := h
  rw [f32IsFinite_iff_low, ← lowMag_strictMono.lt_iff_lt, ← f32Mag_eq_lowMag, lowMag_infLow]
  exact (hle.trans (Nat.pow_le_pow_right (by decide) hhi)).trans_lt (by decide)

theorem MagBetween.ne_zero (h : MagBetween lo hi x) : f32Mag x ≠ 0 :=
  (Nat.lt_of_lt_of_le (Nat.two_pow_pos lo) h.left).ne'

theorem MagBetween.div_eq (hx : f32IsFinite x = true) (hy : MagBetween lo' hi' y) (hhi' : hi' ≤ 255) :
    f32Div x y = f32Round (f32Sign x != f32Sign y) (f32Mag x * 2 ^ 149) (f32Mag y) :=
  f32Div_finite x y hx (hy.finite hhi') hy.ne_zero

/-- A quotient is between the quotients of the bounds. -/
theorem MagBetween.div (hx : MagBetween lo hi x) (hy : MagBetween lo' hi' y) (hxf : hi ≤ 255) (hyf : hi' ≤ 255)
    (hlo : hi' ≤ lo + 149) (hlo' : lo + 149 - hi' ≤ 255) (hhi : lo' ≤ hi + 149) (hhi' : hi + 149 - lo' ≤ 255) :
    MagBetween (lo + 149 - hi') (hi + 149 - lo') (f32Div x y) := by
  rw [MagBetween.div_eq (hx.finite hxf) hy hyf]
  refine .round _ (Nat.pos_of_ne_zero hy.ne_zero) hlo' hhi' ?_ ?_
  · calc 2 ^ (lo + 149 - hi') * f32Mag y ≤ 2 ^ (lo + 149 - hi') * 2 ^ hi' := Nat.mul_le_mul_left _ hy.right
      _ = 2 ^ lo * 2 ^ 149 := by rw [← pow_add, ← pow_add, Nat.sub_add_cancel hlo]
      _ ≤ f32Mag x * 2 ^ 149 := Nat.mul_le_mul_right _ hx.left
  · calc f32Mag x * 2 ^ 149 ≤ 2 ^ hi * 2 ^ 149 := Nat.mul_le_mul_right _ hx.right
      _ = 2 ^ (hi + 149 - lo') * 2 ^ lo' := by rw [← pow_add, ← pow_add, Nat.sub_add_cancel hhi]
      _ ≤ 2 ^ (hi + 149 - lo') * f32Mag y := Nat.mul_le_mul_left _ hy.left

end

/-! The operands. -/

theorem magBetween_u2f {v : Word} (hpos : 1 ≤ v.toNat) : MagBetween 149 181 (u2f v) := by
  have hlt := v.isLt
  exact .round _ Nat.one_pos (by decide) (by decide) (by omega) (by omega)

theorem magBetween_i2f {v : Word} (hne : v ≠ 0) : MagBetween 149 180 (i2f v) := by
  have hge := BitVec.le_toInt v
  have hlt := BitVec.toInt_lt (x := v)
  have hne : v.toInt ≠ 0 := fun h => hne (BitVec.eq_of_toInt_eq h)
  exact .round _ Nat.one_pos (by decide) (by decide) (by omega) (by omega)

theorem magBetween_thousand : MagBetween 158 159 f32Thousand := by
  unfold MagBetween; decide +kernel

theorem i2f_zero : i2f 0 = 0 := by decide +kernel

/-- The window time in seconds. -/
theorem magBetween_windowSeconds {timeSum : Word} (hpos : 1 ≤ timeSum.toNat) :
    MagBetween 139 172 (f32Div (u2f timeSum) f32Thousand) :=
  (magBetween_u2f hpos).div magBetween_thousand (by decide) (by decide) (by decide) (by decide) (by decide) (by decide)

theorem f32Sign_windowSeconds {timeSum : Word} (hpos : 1 ≤ timeSum.toNat) :
    f32Sign (f32Div (u2f timeSum) f32Thousand) = false := by
  rw [magBetween_thousand.div_eq ((magBetween_u2f hpos).finite (by decide)) (by decide), f32Sign_round, f32Sign_u2f]
  rfl

/-! The estimate. -/

theorem velocityEstimate_of_moving {tickSum timeSum : Word} (hpos : 1 ≤ timeSum.toNat) (hne : tickSum ≠ 0) :
    MagBetween 126 190 (velocityEstimate tickSum timeSum) :=
  (magBetween_i2f hne).div (magBetween_windowSeconds hpos) (by decide) (by decide) (by decide) (by decide) (by decide)
    (by decide)

theorem velocityEstimate_of_still {timeSum : Word} (hpos : 1 ≤ timeSum.toNat) : velocityEstimate 0 timeSum = 0 := by
  have hseconds := magBetween_windowSeconds hpos
  have hlow := f32RoundLow_le (low := 0) (num := 0) (Nat.pos_of_ne_zero hseconds.ne_zero) (Nat.zero_le _)
  rw [velocityEstimate, i2f_zero, hseconds.div_eq (by decide) (by decide), f32Sign_windowSeconds hpos,
    show f32Mag 0 = 0 from rfl, Nat.zero_mul, f32Round_eq, Nat.le_zero.mp hlow]
  rfl

/-- Settles O45: without movement the estimate is +0.0, with movement it lies between 2^-23 and 2^41. -/
theorem velocityEstimateIsFinite : Obligations.VelocityEstimateIsFinite := by
  intro tickSum timeSum hpos _ v
  by_cases hstill : tickSum = 0
  · have hv : v = 0 := by subst hstill; exact velocityEstimate_of_still hpos
    simp only [hv, hstill, forall_const, and_true]
    decide
  · have hmag := velocityEstimate_of_moving hpos hstill
    have hfin : f32IsFinite v = true := hmag.finite (by decide)
    have hunits : f32Units v ≠ 0 := mt (f32Units_eq_zero_iff v).mp hmag.ne_zero
    rw [f32Eq_iff v 0 (f32IsNaN_of_finite hfin) (by decide)]
    exact ⟨hfin, iff_of_false hunits hstill, fun h => absurd h hstill⟩

end Sys2Proof.Machine
end

section
/-! A tick at standstill (spec/42_wheel.md R213): the window holds the sample just pushed, so its time is one the velocity
estimate is +0.0 for when nothing moved. -/

namespace Sys2Proof.Machine

/-! The window time. -/

theorem accPush_count_pos {winN : Word} (hwin : 1 ≤ winN.toNat) (x : Wheel) (smp : Sample) :
    1 ≤ (accPush winN x smp).1.count.toNat := by
  obtain ⟨hlt, h⟩ | ⟨hfull, h⟩ := accPush_cases winN x smp <;> rw [h]
  · rw [toNat_add_one_of_lt hlt]
    omega
  · exact hwin.trans hfull

/-- Each sample adds a time of 1 .. 65535. -/
theorem sumTimes_bounds {l : List Sample} (h : ∀ smp ∈ l, 1 ≤ smp.t.toNat ∧ smp.t.toNat ≤ 65535) :
    l.length ≤ sumTimes l ∧ sumTimes l ≤ l.length * 65535 := by
  induction l with
  | nil => exact ⟨le_refl _, le_refl _⟩
  | cons smp l ih =>
    obtain ⟨hsmp, hl⟩ := List.forall_mem_cons.mp h
    have := ih hl
    rw [sumTimes_cons, List.length_cons]
    omega

/-- The time of a window that holds a sample. -/
theorem WindowOk.timeSum_bounds {winN : Word} {x : Wheel} (h : WindowOk winN x) (hwin : winN.toNat ≤ 65536)
    (hcount : 1 ≤ x.count.toNat) : 1 ≤ x.timeSum.toNat ∧ x.timeSum.toNat ≤ 65535 * 65536 := by
  obtain ⟨⟨-, hle, -⟩, -, htime, hrange⟩ := h
  have hbounds := sumTimes_bounds hrange
  rw [length_storedSamples, ← htime] at hbounds
  omega

/-! The tick. -/

theorem exec_tick_accepted {s : State} (hready : s.status.ready = true) {dt : Half} (hdt : dt ≠ 0) :
    exec (.tick dt) s = .next (acceptedTick dt s) := by
  rw [exec, execTick, hready, if_neg (by decide), if_neg hdt]

/-- A tick with no movement in the window and a zero target finds the wheel at standstill. -/
theorem wheelUpdate_standstill {p : Params} {x : Wheel} {dt : Half} {raw : Word} (hlegal : ParamsLegal p)
    (hwindow : WindowOk p.winN x) (hdt : dt ≠ 0) (htick : (wheelUpdate p x dt raw).tickSum = 0)
    (htarget : f32Eq (wheelUpdate p x dt raw).targetTps 0 = true) : (wheelUpdate p x dt raw).standstill = true := by
  have ⟨⟨hwin, hwin'⟩, _⟩ := hlegal
  obtain ⟨⟨-, -, hcount, -⟩, -, hvel, hstand, -, -, -, hkept, -⟩ := wheelUpdateMeasures p x dt raw
  have hcount_pos : 1 ≤ (wheelUpdate p x dt raw).count.toNat := by
    rw [hcount]
    exact accPush_count_pos hwin x _
  obtain ⟨hpos, -⟩ := (hwindow.wheelUpdate hlegal hdt raw).timeSum_bounds hwin' hcount_pos
  have hzero : (wheelUpdate p x dt raw).velTps = 0 := by
    rw [hvel, htick]
    exact velocityEstimate_of_still hpos
  rw [hkept] at htarget
  exact hstand.mpr ⟨by rw [hzero]; decide, htarget⟩

/-- Settles O46: the window time is positive, so the estimate is +0.0 and the regulation step takes its standstill
branch. -/
theorem standstillTickHoldsTheWheel : Obligations.StandstillTickHoldsTheWheel := by
  rintro s dt w ⟨hlegal, hwindow⟩ hready hdt hen
  refine ⟨_, exec_tick_accepted hready hdt, ?_⟩
  rw [acceptedTick_wheel]
  intro htick htarget
  have hinput : WindowOk s.params.winN (tickInput dt s w) := hwindow w
  have hstill := wheelUpdate_standstill hlegal hinput hdt htick htarget
  obtain ⟨-, hhold, -⟩ := wheelUpdateRegulates s.params (tickInput dt s w) dt (sampleEncCnt s w)
  exact ⟨hstill, hhold hen hstill⟩

end Sys2Proof.Machine
end

section
/-! The global commands (spec/43_diffdrive.md R230 to R246): what each accepted one writes, read off the lemmas about its
units. -/

namespace Sys2Proof.Machine

/-! INIT (R231). -/

theorem exec_init_accepted {s : State} (hready : s.status.ready = false) (hconfig : configUsable s.cfg = true) :
    exec .init s = .next (acceptedInit s) := by
  simp [exec, execInit, hready, hconfig]

theorem initLimit_eq (s : State) :
    initLimit s = u2f (BitVec.ofNat 32 (min s.params.pwmCeil.toNat s.cfg.powerLimit.toNat)) := by
  rw [initLimit, Nat.min_def, apply_ite (BitVec.ofNat 32), BitVec.ofNat_toNat, BitVec.ofNat_toNat,
    BitVec.setWidth_eq, BitVec.setWidth_eq]

/-- Settles O22: the accepted INIT is WheelInit with its strobe on every wheel, and READY. -/
theorem initLoadsEveryWheel : Obligations.InitLoadsEveryWheel := by
  intro s hready hticks hradius hsep
  have hconfig : configUsable s.cfg = true := by simp only [configUsable, hticks, hradius, hsep, Bool.and_self]
  refine ⟨_, exec_init_accepted hready hconfig, acceptedInit_eq s, fun w => ⟨?_, acceptedInit_channel s w⟩⟩
  rw [acceptedInit_wheel, initLimit_eq]
  rfl

/-! TICK (R236 to R241). -/

theorem acceptedTick_timeout (dt : Half) (s : State) :
    (acceptedTick dt s).status.timeout = commandStale { s with nowMs := s.nowMs + zext16 dt } := by
  rw [acceptedTick_eq]

theorem exists_wheelId {p : WheelId → Prop} : (∃ w, p w) ↔ p .fl ∨ p .fr ∨ p .rl ∨ p .rr := by
  constructor
  · rintro ⟨w, hw⟩
    cases w <;> simp only [hw, true_or, or_true]
  · rintro (h | h | h | h) <;> exact ⟨_, h⟩

/-- NUMERR is sticky, and each of the four wheel updates can set it (R236, spec/60_exceptions.md R304). -/
theorem acceptedTick_numErr_iff (dt : Half) (s : State) :
    (acceptedTick dt s).status.numErr = true ↔
      s.status.numErr = true ∨
        ∃ w, wheelUpdateNumErr s.params (tickInput dt s w) dt (sampleEncCnt s w) = true := by
  rw [acceptedTick_numErr, exists_wheelId]
  simp only [Bool.or_eq_true, or_assoc]

/-- Settles O23: TIMEOUT after the tick is the fail-safe check that decided the targets the wheel updates were given. -/
theorem tickUpdatesEveryWheel : Obligations.TickUpdatesEveryWheel := by
  intro s dt hready hdt
  have hinput (w : WheelId) :
      { s.wheel w with
        targetTps := if (acceptedTick dt s).status.timeout then 0 else (s.wheel w).targetTps } = tickInput dt s w := by
    rw [acceptedTick_timeout, tickInput]
  refine ⟨_, exec_tick_accepted hready hdt, ?_, ?_, fun w => ?_, ?_⟩
  · rw [acceptedTick_timeout, ← zext16_eq_setWidth]
    exact acceptedTick_eq dt s
  · rw [acceptedTick_timeout, commandStale_timed, zext16_eq_setWidth, decide_eq_true_eq]
  · rw [hinput, acceptedTick_wheel]
  · simp only [hinput]
    exact acceptedTick_numErr_iff dt s

/-- The velocities integrated are those of the state after the tick, which the integration itself does not move. -/
theorem acceptedTick_odom (dt : Half) (s : State) :
    (acceptedTick dt s).odom =
      eulerStep s.odom (bodyLinear (acceptedTick dt s)) (bodyAngular (acceptedTick dt s)) (tickSeconds dt) := by
  have hodom : s.odom = (failSafe { s with nowMs := s.nowMs + zext16 dt }).odom := by rw [failSafe_odom]
  rw [hodom]
  rfl

theorem acceptedTick_cfg (dt : Half) (s : State) : (acceptedTick dt s).cfg = s.cfg := by
  rw [acceptedTick_eq]

/-- Settles O24: the tick's odometry, with the configuration the tick leaves. -/
theorem tickIntegratesThePose : Obligations.TickIntegratesThePose := by
  intro s t dt hready hdt hexec om vL vR dts
  rw [exec_tick_accepted hready hdt] at hexec
  obtain rfl := Host.Outcome.next.inj hexec
  have hcfg := acceptedTick_cfg dt s
  have homega (w : WheelId) : wheelOmega (acceptedTick dt s) w = om w := by rw [wheelOmega, getVelocity, hcfg]
  have hleft : leftVelocity (acceptedTick dt s) = vL := by rw [leftVelocity, homega, homega, hcfg]; rfl
  have hright : rightVelocity (acceptedTick dt s) = vR := by rw [rightVelocity, homega, homega, hcfg]; rfl
  have hlin : bodyLinear (acceptedTick dt s) = f32Div (f32Add vL vR) 0x40000000 := by
    rw [bodyLinear, hleft, hright]; rfl
  have hang : bodyAngular (acceptedTick dt s) = f32Div (f32Sub vR vL) s.cfg.wheelSep := by
    rw [bodyAngular, hleft, hright, hcfg]
  have hdts : tickSeconds dt = dts := by rw [tickSeconds, zext16_eq_setWidth]; rfl
  rw [acceptedTick_odom, hlin, hang, hdts]
  exact ⟨rfl, rfl, rfl, rfl, rfl⟩

/-! SET_SPEED (R233 to R235). -/

theorem exec_setSpeed_accepted {s : State} (hready : s.status.ready = true) (h0 : f32IsFinite s.arg0 = true)
    (h1 : f32IsFinite s.arg1 = true) :
    exec .setSpeed s =
      .next
        { setSideTargets (leftSetpoint s.cfg s.arg0 s.arg1) (rightSetpoint s.cfg s.arg0 s.arg1) s with
          lastCmdMs := s.nowMs } := by
  simp [exec, execSetSpeed, hready, h0, h1]

/-- Settles O25: the accepted command is SetTarget on every wheel, with the setpoint of its side. -/
theorem setSpeedWritesTheSideTargets : Obligations.SetSpeedWritesTheSideTargets := fun s hready h0 h1 =>
  ⟨_, exec_setSpeed_accepted hready h0 h1, rfl, setSideTargets_wheel _ _ s⟩

/-! NOP, RESET_ODOM, GET_ODOM (R230, R242, R245). -/

/-- Settles O21: the meaning of NOP is the state itself. -/
theorem nopChangesNothing : Obligations.NopChangesNothing := fun _ => rfl

/-- Settles O26: the distances are zeroed on every wheel, the pose beside them. -/
theorem resetOdomZeroesPoseAndDistance : Obligations.ResetOdomZeroesPoseAndDistance := fun _ =>
  ⟨_, rfl, rfl, onWheels_wheel _ _⟩

/-- Settles O27: five writes to RES, each to a register of its own. -/
theorem getOdomCopiesThePose : Obligations.GetOdomCopiesThePose := by
  intro s
  refine ⟨_, rfl, by simp, fun k hk => ?_⟩
  have hne (i : Nat) (hi : i < 5) : i ≠ k.val := by omega
  simp only [Fin.getElem_fin, Vector.getElem_setIfInBounds k.isLt, hne, Nat.reduceLT, if_false]

/-! GET_WHEEL_STATES (R246). -/

theorem exec_getWheelStates_accepted {s : State} (hready : s.status.ready = true) :
    exec .getWheelStates s =
      .next (s.setRes
        (readoutInto s .rr 15 (readoutInto s .rl 10 (readoutInto s .fr 5 (readoutInto s .fl 0 s.res))))) := by
  simp [exec, execGetWheelStates, hready]

theorem getElem_readoutInto_of_lt (s : State) (w : WheelId) {base : Nat} (r : Vector Word 20) {k : Nat} (hk : k < 20)
    (hlt : k < base) : (readoutInto s w base r)[k] = r[k] := by
  rw [getElem_readoutInto]
  repeat rw [if_neg (by omega)]

/-- In a wheel's block stands what that wheel's own readout wrote: the later readouts write above it. -/
theorem exists_getElem_readouts_eq (s : State) (w : WheelId) {k : Nat} (hk : k < 20) (hblock : k < 5 * wheelIndex w + 5) :
    ∃ r, (readoutInto s .rr 15 (readoutInto s .rl 10 (readoutInto s .fr 5 (readoutInto s .fl 0 s.res))))[k] =
      (readoutInto s w (5 * wheelIndex w) r)[k] := by
  have skip (v : WheelId) {base : Nat} (r : Vector Word 20) (hlt : k < base) :=
    getElem_readoutInto_of_lt s v r hk hlt
  cases w <;> simp only [wheelIndex] at hblock
  case rr => exact ⟨_, rfl⟩
  case rl => exact ⟨_, skip .rr _ (by omega)⟩
  case fr => exact ⟨_, (skip .rr _ (by omega)).trans (skip .rl _ (by omega))⟩
  case fl => exact ⟨_, ((skip .rr _ (by omega)).trans (skip .rl _ (by omega))).trans (skip .fr _ (by omega))⟩

/-- Settles O28: each result is read off its wheel's own readout. -/
theorem getWheelStatesFillsEveryResult : Obligations.GetWheelStatesFillsEveryResult := by
  intro s hready
  refine ⟨_, exec_getWheelStates_accepted hready, fun w k => ?_⟩
  rw [Fin.getElem_fin]
  refine ⟨fun h => ?_, fun h => ?_, fun h => ?_, fun h => ?_, fun h => ?_⟩
  all_goals
    obtain ⟨r, hr⟩ := exists_getElem_readouts_eq s w k.isLt (by omega)
    rw [hr, getElem_readoutInto]
    simp [h, getVelocity, getDistance, getTorque, sampleIWind, getDuty, f32Hundred, getEnabled_eq]

end Sys2Proof.Machine
end

section
/-! Which commands the phase refuses (spec/43_diffdrive.md R247), and that a command on a wheel reads no other wheel
(R238, spec/10_state.md R44). -/

namespace Sys2Proof.Machine

/-! The phase. -/

theorem exec_command_next (c : Command) (s : State) : ∃ t, exec c.toInstr s = .next t := by
  cases c <;> exact ⟨_, rfl⟩

theorem exec_of_refused {c : Command} {s : State} {code : RefusalCode} (h : refusalOf c s = some code) :
    exec c.toInstr s = .next (refuse code s) := by
  obtain ⟨t, ht⟩ := exec_command_next c s
  obtain ⟨code', hcode, rfl⟩ | ⟨hnone, -⟩ := command_cases c s t ht
  · obtain rfl := Option.some.inj (h.symm.trans hcode)
    exact ht
  · simp [h] at hnone

/-- NOT_READY is the answer before INIT to every command but the six R247 admits in that phase. -/
theorem refusalOf_eq_notReady_iff (c : Command) (s : State) :
    refusalOf c s = some .notReady ↔
      s.status.ready = false ∧
        ¬(c = .nop ∨ c = .init ∨ c = .disableAll ∨ (∃ w, c = .wDisable w) ∨ c = .resetOdom ∨ c = .getOdom) := by
  cases c with
  | nop | disableAll | wDisable | resetOdom | getOdom => simp [refusalOf]
  | init => simp only [refusalOf]; split_ifs <;> simp
  | tick | setSpeed | enableAll | getWheelStates | wEnable | wSetTarget | wGetState | pidReset | pidSetCoeffs
  | pidSetRange => cases hready : s.status.ready <;> simp [refusalOf, hready]

/-- ALREADY_INIT is the answer to INIT once it has succeeded. -/
theorem refusalOf_eq_alreadyInit_iff (c : Command) (s : State) :
    refusalOf c s = some .alreadyInit ↔ s.status.ready = true ∧ c = .init := by
  cases c with
  | init => cases hready : s.status.ready <;> simp [refusalOf, hready]
  | nop | disableAll | wDisable | resetOdom | getOdom => simp [refusalOf]
  | tick | setSpeed | enableAll | getWheelStates | wEnable | wSetTarget | wGetState | pidReset | pidSetCoeffs
  | pidSetRange => simp only [refusalOf]; split_ifs <;> simp

/-- Settles O37, from where each of the two codes is the answer. -/
theorem phaseAdmission : Obligations.PhaseAdmission := by
  intro c s
  refine ⟨fun hready => ⟨?_, exec_of_refused⟩, fun hready => ⟨?_, ?_, fun hc => ?_⟩⟩
  · rw [refusalOf_eq_notReady_iff, and_iff_right hready]
  · simp [refusalOf_eq_notReady_iff, hready]
  · rw [refusalOf_eq_alreadyInit_iff, and_iff_right hready]
  · exact exec_of_refused ((refusalOf_eq_alreadyInit_iff c s).mpr ⟨hready, hc⟩)

/-! Wheels apart. -/

/-- Two states with the same shared registers, the same wheel `w` and the same channel of it. -/
structure SameForWheel (w : WheelId) (s s' : State) : Prop where
  params : s.params = s'.params
  cfg : s.cfg = s'.cfg
  ready : s.status.ready = s'.status.ready
  arg0 : s.arg0 = s'.arg0
  arg1 : s.arg1 = s'.arg1
  arg2 : s.arg2 = s'.arg2
  nowMs : s.nowMs = s'.nowMs
  lastCmdMs : s.lastCmdMs = s'.lastCmdMs
  wheel : s.wheel w = s'.wheel w
  channel : s.channel w = s'.channel w

section

variable {w : WheelId} {s s' : State}

/-- Whether a command is refused depends on shared registers only. -/
theorem SameForWheel.refusalOf_eq (h : SameForWheel w s s') (c : Command) : refusalOf c s = refusalOf c s' := by
  obtain ⟨hparams, hcfg, hready, h0, h1, h2, -⟩ := h
  cases c <;> simp only [refusalOf, hparams, hcfg, hready, h0, h1, h2]

theorem SameForWheel.initLimit_eq (h : SameForWheel w s s') : initLimit s = initLimit s' := by
  simp only [initLimit, h.params, h.cfg]

theorem SameForWheel.sampleEncCnt_eq (h : SameForWheel w s s') : sampleEncCnt s w = sampleEncCnt s' w := by
  simp only [sampleEncCnt, h.params, h.channel]

/-- The fail-safe stop reads the clock, and no wheel. -/
theorem SameForWheel.tickInput_eq (h : SameForWheel w s s') (dt : Half) : tickInput dt s w = tickInput dt s' w := by
  have hstale : commandStale { s with nowMs := s.nowMs + zext16 dt } =
      commandStale { s' with nowMs := s'.nowMs + zext16 dt } := by
    rw [commandStale_timed, commandStale_timed, h.cfg, h.nowMs, h.lastCmdMs]
  rw [tickInput, tickInput, hstale, h.wheel]

/-- What an accepted command makes of the wheel, command by command. -/
theorem SameForWheel.wheelAfter_eq (h : SameForWheel w s s') (c : Command) : wheelAfter c s w = wheelAfter c s' w := by
  cases c with
  | nop | getOdom | getWheelStates | wGetState => exact h.wheel
  | init => rw [wheelAfter, wheelAfter, h.initLimit_eq, h.wheel, wheelInit_congr s s' w _ _ h.cfg]
  | tick dt => rw [wheelAfter, wheelAfter, h.params, h.tickInput_eq, h.sampleEncCnt_eq]
  | setSpeed => simp only [wheelAfter, h.cfg, h.arg0, h.arg1, h.wheel]
  | resetOdom | enableAll | disableAll | wEnable | wDisable | pidReset => simp only [wheelAfter, h.wheel]
  | wSetTarget => simp only [wheelAfter, h.cfg, h.arg0, h.wheel]
  | pidSetCoeffs => simp only [wheelAfter, h.arg0, h.arg1, h.arg2, h.wheel]
  | pidSetRange => simp only [wheelAfter, h.arg0, h.wheel]

end

/-- A refused command leaves the wheel, an accepted one has its effect on it. -/
theorem wheel_of_exec {c : Command} {s t : State} (h : exec c.toInstr s = .next t) (w : WheelId) :
    t.wheel w = if refusalOf c s = none then wheelAfter c s w else s.wheel w := by
  obtain ⟨code, hcode, rfl⟩ | ⟨hnone, heffect⟩ := command_cases c s t h
  · rw [if_neg (by simp [hcode]), refuse_wheel]
  · rw [if_pos hnone, heffect.wheel_eq]

/-- Settles O59: refusal and effect on the wheel are the same in both states. -/
theorem wheelsDoNotReadEachOther : Obligations.WheelsDoNotReadEachOther := by
  intro c w s s' t t' hparams hcfg hready h0 h1 h2 hnow hlast hwheel hchannel ht ht'
  have hsame : SameForWheel w s s' := ⟨hparams, hcfg, hready, h0, h1, h2, hnow, hlast, hwheel, hchannel⟩
  rw [wheel_of_exec ht, wheel_of_exec ht', hsame.refusalOf_eq, hsame.wheelAfter_eq, hwheel]

end Sys2Proof.Machine
end

section
/-! The accesses of the host on the bus (spec/44_bus.md): reads and writes of the registers at their addresses (R284 to
R292), then the steps on a command written to CMD (R283) and on a malformed access (R282). -/

namespace Sys2Proof.Machine

/-! Writes of the configuration registers. -/

theorem bitField_upper_eq_zero_iff (v : Word) : bitField v 8 24 = 0 ↔ v.toNat < 2 ^ 8 := by
  have hv : v.toNat < 2 ^ 32 := v.isLt
  rw [bitField]
  omega

theorem cfgLegal_polarity_iff (v : Word) : cfgLegal .polarity v = true ↔ v.toNat < 2 ^ 8 := by
  rw [cfgLegal, beq_iff_eq, bitField_upper_eq_zero_iff]

theorem exec_wr_cfg (c : CfgReg) (v : Word) (s : State) :
    exec (.wr (BitVec.ofNat 12 (regAddr (.cfg c))) v) s = .next (writeCfg c v s) := execWr_regAddr (.cfg c) v s

/-- Where `accepted` is the check on the written value, an accepted write stores it and a refused one is recorded. -/
theorem exec_wr_cfg_checked {c : CfgReg} {v : Word} {accepted : Prop} (hlegal : cfgLegal c v = true ↔ accepted)
    (s : State) :
    (accepted → ∃ x : Cfg, exec (.wr (BitVec.ofNat 12 (regAddr (.cfg c))) v) s = .next { s with cfg := x } ∧
      cfgRead x c = v ∧ ∀ c', c' ≠ c → cfgRead x c' = cfgRead s.cfg c') ∧
    (¬accepted → exec (.wr (BitVec.ofNat 12 (regAddr (.cfg c))) v) s =
      .next { s with status := { s.status with err := true, ecode := 0x07 } }) := by
  rw [← hlegal, exec_wr_cfg]
  obtain ⟨hok, hwrite⟩ | ⟨hbad, hwrite⟩ := writeCfg_cases c v s <;> rw [hwrite]
  · refine ⟨fun _ => ⟨cfgWrite s.cfg c v, rfl, ?_, fun c' hne => ?_⟩, fun hno => absurd hok hno⟩
    · rw [cfgRead_cfgWrite, if_pos rfl]
    · rw [cfgRead_cfgWrite, if_neg hne]
  · exact ⟨fun hyes => absurd hyes (Bool.eq_false_iff.mp hbad), fun _ => rfl⟩

/-- Settles O11: register by register, the model's check is the rule's. -/
theorem configWritesAreChecked : Obligations.ConfigWritesAreChecked := by
  intro s c v
  refine exec_wr_cfg_checked ?_ s
  cases c with
  | powerLimit | cmdTimeout => exact iff_of_true rfl trivial
  | polarity => exact cfgLegal_polarity_iff v
  | ticksPerRad | wheelRadius | wheelSep => exact Bool.and_eq_true_iff
  | kp | ki | kd | kt | angMult => exact Iff.rfl

/-! The fields of a legal descriptor (spec/30_encoding.md R111). -/

theorem bitField_one_beq_one {n : Nat} (v : BitVec n) (k : Nat) : (bitField v k 1 == 1) = v.getLsbD k := by
  rw [BitVec.getLsbD, Nat.testBit_eq_decide_div_mod_eq, bitField, pow_one]
  rfl

theorem busDescriptor_size (write : Bool) (a : Addr) : (busDescriptor write a).extractLsb' 12 3 = 0b010 := by
  have ha : a.toNat < 2 ^ 12 := a.isLt
  apply BitVec.eq_of_toNat_eq
  rw [toNat_extractLsb'_eq_bitField, bitField, toNat_busDescriptor]
  split <;> simp only [BitVec.reduceToNat] <;> omega

theorem busDescriptor_addr (write : Bool) (a : Addr) : (busDescriptor write a).extractLsb' 0 12 = a := by
  have ha : a.toNat < 2 ^ 12 := a.isLt
  apply BitVec.eq_of_toNat_eq
  rw [toNat_extractLsb'_eq_bitField, bitField, toNat_busDescriptor]
  split <;> omega

theorem busDescriptor_low (write : Bool) {a : Addr} (ha : alignedAddr a = true) :
    (busDescriptor write a).extractLsb' 0 2 = 0b00 := by
  have hmod : a.toNat % 4 = 0 := beq_iff_eq.mp ha
  rw [extractLsb'_eq_zero_iff, bitField, toNat_busDescriptor]
  split <;> omega

theorem busDescriptor_write (write : Bool) (a : Addr) : (busDescriptor write a).getLsbD 15 = write := by
  have ha : a.toNat < 2 ^ 12 := a.isLt
  rw [← bitField_one_beq_one, bitField, toNat_busDescriptor]
  cases write <;> simp only [Bool.false_eq_true, if_true, if_false, beq_iff_eq, beq_eq_false_iff_ne] <;> omega

/-! Malformed accesses. -/

theorem malformedAccess_eq (write : Bool) (s : State) :
    malformedAccess write s =
      { s with
        status := { s.status with busErr := true }
        busRData := if write then s.busRData else 0 } := by
  cases write <;> rfl

/-- A request that does not decode is a malformed access in the direction of its WE bit. -/
theorem fetchMove_of_undecodable {desc : Half} {data : Word} {e : DecodeError} (h : decodeBus desc data = .error e) :
    fetchMove (.busRequest desc data) = .malformed (desc.getLsbD 15) := by
  simp only [fetchMove, decode, h, bitField_one_beq_one]

theorem execWr_of_readOnly {a : Addr} {r : Reg} (h : regAt a = some r) (hro : regAccess r = .ro) (v : Word)
    (s : State) : execWr a v s = .next (malformedWrite s) := by
  simp only [execWr, h, writeReg_ro r v s hro]

/-- A well-formed request to an address without a register, or for a write to a read-only one, is malformed too. -/
theorem exec_busInstr_malformed {write : Bool} {a : Addr}
    (h : regAt a = none ∨ (write = true ∧ (regAt a).map regAccess = some .ro)) (data : Word) (s : State) :
    exec (busInstr write a data) s = .next (malformedAccess write s) := by
  obtain hnone | ⟨rfl, hro⟩ := h
  · cases write
    · exact execRd_of_unmapped hnone s
    · exact execWr_of_unmapped hnone data s
  · obtain ⟨r, hr, hro⟩ := Option.map_eq_some_iff.mp hro
    exact execWr_of_readOnly hr hro data s

/-- Settles O16: a request that does not decode is malformed whatever it names; one that does has the size and the
alignment of a legal access, so the register at its address is what makes it malformed. -/
theorem malformedAccessOnlySetsBusErr : Obligations.MalformedAccessOnlySetsBusErr := by
  intro s desc data ms hinbox hmalformed
  suffices hstep : step s = .next (malformedAccess (desc.getLsbD 15) { s with inbox := ms }) by
    rw [hstep, malformedAccess_eq]
  cases hdecode : decodeBus desc data with
  | error e =>
    obtain ⟨-, -, hfetched, -⟩ := step_cons s (.busRequest desc data) ms hinbox
    exact hfetched _ (fetchMove_of_undecodable hdecode)
  | ok i =>
    rw [stepRunsTheDecodedBusRequest s desc data ms i hinbox hdecode]
    obtain ⟨write, a, haligned, rfl, rfl⟩ := (decodeBus_eq_ok_iff desc data i).mp hdecode
    rw [busDescriptor_size, busDescriptor_low write haligned, busDescriptor_addr, busDescriptor_write] at hmalformed
    rw [busDescriptor_write]
    exact exec_busInstr_malformed (by simpa using hmalformed) data _

/-! Reads and the other writes. -/

/-- Settles O7, from the read at a register's address. -/
theorem readReturnsTheRegister : Obligations.ReadReturnsTheRegister :=
  fun r s => ⟨execRd_regAddr r s, rfl⟩

/-- Settles O9, from the write at each argument's address. -/
theorem argumentWritesStore : Obligations.ArgumentWritesStore :=
  fun s v => ⟨execWr_regAddr .arg0 v s, execWr_regAddr .arg1 v s, execWr_regAddr .arg2 v s⟩

theorem exec_wr_status (v : Word) (s : State) :
    exec (.wr 0x010 v) s = .next { s with status := clearedStatus v s.status } := execWr_regAddr .status v s

/-- What a 1 and a 0 do to a flag that is written 1 to clear. -/
theorem flag_cleared_or_kept (flag bit : Bool) :
    (bit = true → (flag && !bit) = false) ∧ (bit = false → (flag && !bit) = flag) := by
  cases bit <;> simp

/-- Settles O10: ERR, NUMERR and BUSERR are written 1 to clear, and ECODE goes with ERR. -/
theorem statusWriteClearsNamedBits : Obligations.StatusWriteClearsNamedBits := by
  intro s v
  obtain ⟨herr, herrKept⟩ := flag_cleared_or_kept s.status.err (v.getLsbD 2)
  obtain ⟨hnum, hnumKept⟩ := flag_cleared_or_kept s.status.numErr (v.getLsbD 3)
  obtain ⟨hbus, hbusKept⟩ := flag_cleared_or_kept s.status.busErr (v.getLsbD 4)
  exact ⟨clearedStatus v s.status, exec_wr_status v s, rfl, rfl, fun h => ⟨herr h, if_pos h⟩,
    fun h => ⟨herrKept h, if_neg (Bool.eq_false_iff.mp h)⟩, hnum, hnumKept, hbus, hbusKept⟩

theorem regAccess_eq_ro {r : Reg} (hcmd : r ≠ .cmd) (hstatus : r ≠ .status) (h0 : r ≠ .arg0) (h1 : r ≠ .arg1)
    (h2 : r ≠ .arg2) (hcfg : ∀ c, r ≠ .cfg c) : regAccess r = .ro := by
  cases r with
  | cmd | status | arg0 | arg1 | arg2 => contradiction
  | cfg c => exact absurd rfl (hcfg c)
  | _ => rfl

/-- Settles O12: the registers left are the read-only ones. -/
theorem readOnlyWritesAreBusErrors : Obligations.ReadOnlyWritesAreBusErrors := by
  intro r s v hcmd hstatus h0 h1 h2 hcfg
  exact execWr_of_readOnly (regAt_regAddr r) (regAccess_eq_ro hcmd hstatus h0 h1 h2 hcfg) v s

/-- Settles O15: the request decodes to the write of the word to CMD, which runs the command the word encodes. -/
theorem stepRunsACommandWrittenToCmd : Obligations.StepRunsACommandWrittenToCmd := by
  intro s c ms hinbox
  have hdecode : decode (.bus 0xA014 (encodeCommand c)) = .ok (.wr 0x014 (encodeCommand c)) :=
    decodeBus_busDescriptor true (a := 0x014) rfl (encodeCommand c)
  rw [stepRunsTheDecodedBusRequest s _ _ ms _ hinbox hdecode, exec_wr_cmd,
    execCommandWord_of_legal (decodeCommand_encodeCommand c)]

end Sys2Proof.Machine
end

section
/-! The exceptions (spec/60_exceptions.md): no step stops (R302, R306), a refusal is recorded in ERR and ECODE alone
(R300, R303), and every step keeps ERR with ECODE (R301) and the configuration registers legal
(spec/44_bus.md R286 to R289). -/

namespace Sys2Proof.Machine

/-! Every operation answers a next state (R302, R306). -/

theorem execRd_next (a : Addr) (s : State) : ∃ t, execRd a s = .next t := by
  unfold execRd
  cases regAt a <;> exact ⟨_, rfl⟩

theorem execCommandWord_next (v : Word) (s : State) : ∃ t, execCommandWord v s = .next t := by
  cases hdecode : decodeCommand v with
  | ok c =>
    rw [execCommandWord_of_legal hdecode]
    exact exec_command_next c s
  | error e => exact ⟨_, execCommandWord_of_illegal hdecode s⟩

/-- CMD runs the word written to it; every other register answers at once. -/
theorem writeReg_next (r : Reg) (v : Word) (s : State) : ∃ t, writeReg r v s = .next t := by
  cases r with
  | cmd => exact execCommandWord_next v s
  | _ => exact ⟨_, rfl⟩

theorem execWr_next (a : Addr) (v : Word) (s : State) : ∃ t, execWr a v s = .next t := by
  unfold execWr
  cases regAt a with
  | none => exact ⟨_, rfl⟩
  | some r => exact writeReg_next r v s

theorem exec_next (i : Instr) (s : State) : ∃ t, exec i s = .next t := by
  obtain ⟨c, rfl⟩ | ⟨a, rfl⟩ | ⟨a, v, rfl⟩ := instr_cases i
  · exact exec_command_next c s
  · exact execRd_next a s
  · exact execWr_next a v s

/-- Settles O17: what the sequencer meets is an operation, or something that answers by itself. -/
theorem everyStepAnswersNext : Obligations.EveryStepAnswersNext := by
  intro s
  unfold step
  cases fetchNext s with
  | run i => exact exec_next i (takeMove s)
  | _ => exact ⟨_, rfl⟩

/-! ERR and ECODE of a command (R300, R303). -/

/-- What an accepted command leaves alone: the record of a refusal, and the configuration registers. -/
structure KeepsErrorAndCfg (s t : State) : Prop where
  err : t.status.err = s.status.err
  ecode : t.status.ecode = s.status.ecode
  cfg : t.cfg = s.cfg

theorem CommandEffect.keepsErrorAndCfg {c : Command} {s t : State} (h : CommandEffect c s t) :
    KeepsErrorAndCfg s t := by
  cases c with
  | nop | resetOdom | disableAll | wDisable => subst h; constructor <;> rfl
  | init => rw [h, acceptedInit_eq]; constructor <;> rfl
  | tick dt => rw [h.left, acceptedTick_eq]; constructor <;> rfl
  | getOdom | getWheelStates | wGetState => obtain ⟨r, rfl⟩ := h; constructor <;> rfl
  | setSpeed | enableAll | wEnable | wSetTarget | pidReset | pidSetCoeffs | pidSetRange =>
    rw [h.left]; constructor <;> rfl

/-- Settles O36: a refused command answers the refusal, an accepted one its effect. -/
theorem refusedCommandsChangeOnlyErrAndEcode : Obligations.RefusedCommandsChangeOnlyErrAndEcode := by
  intro c s
  refine ⟨fun _ => exec_of_refused, fun hnone => ?_⟩
  obtain ⟨t, ht⟩ := exec_command_next c s
  obtain ⟨code, hcode, -⟩ | ⟨-, heffect⟩ := command_cases c s t ht
  · simp [hnone] at hcode
  · obtain ⟨herr, hecode, -⟩ := heffect.keepsErrorAndCfg
    exact ⟨t, ht, herr, hecode⟩

/-! A NaN output sum (R302, spec/41_pid.md R166). -/

theorem f2iTrunc_zero : f2iTrunc 0 = 0 := by decide +kernel

/-- The update that sets NUMERR is a regulating one with a NaN sum, and Clamp makes +0.0 of that. -/
theorem wheelUpdate_power_of_numErr {p : Params} {x : Wheel} {dt : Half} {raw : Word}
    (h : wheelUpdateNumErr p x dt raw = true) : (wheelUpdate p x dt raw).power = 0 := by
  obtain ⟨-, -, hregulating, hbranch⟩ := wheelUpdateRegulates p x dt raw
  obtain ⟨hen, hmoving⟩ := hbranch h
  obtain ⟨hpower, -, -, hnan⟩ := hregulating hen hmoving
  rw [hpower, clampOutput_of_nan (hnan.mp h), f2iTrunc_zero]

/-- The wheel a tick updates, its fail-safe check written as a comparison of words. -/
theorem tickInput_eq (dt : Half) (s : State) (w : WheelId) :
    tickInput dt s w =
      { s.wheel w with
        targetTps :=
          if s.cfg.cmdTimeout < s.nowMs + dt.setWidth 32 - s.lastCmdMs then 0 else (s.wheel w).targetTps } := by
  simp only [tickInput, commandStale_timed, ← zext16_eq_setWidth, decide_eq_true_eq]

/-- Settles O44: the accepted tick runs to its end, with that wheel's update in it. -/
theorem nanSumGivesZeroPower : Obligations.NaNSumGivesZeroPower := by
  intro s dt w hready hdt hnan
  rw [← tickInput_eq] at hnan
  obtain ⟨herr, hecode, -⟩ :=
    CommandEffect.keepsErrorAndCfg (c := .tick dt) (s := s) ⟨rfl, hdt, hready⟩
  refine ⟨_, exec_tick_accepted hready hdt, ?_, ?_, herr, hecode⟩
  · exact (acceptedTick_numErr_iff dt s).mpr (.inr ⟨w, hnan⟩)
  · rw [acceptedTick_wheel]
    exact wheelUpdate_power_of_numErr hnan

/-! ERR and ECODE of a step (R301). -/

/-- What can become of ERR and ECODE: they are kept, a refusal is recorded, or they are cleared together. -/
inductive ErrorChange (x y : Status) : Prop where
  | kept (herr : y.err = x.err) (hecode : y.ecode = x.ecode)
  | recorded (code : RefusalCode) (herr : y.err = true) (hecode : y.ecode = ecodeOf code)
  | cleared (herr : y.err = false) (hecode : y.ecode = 0)

theorem ErrorChange.of_clearedStatus (v : Word) (x : Status) : ErrorChange x (clearedStatus v x) := by
  cases hbit : v.getLsbD 2
  · exact .kept ((flag_cleared_or_kept x.err _).right hbit) (if_neg (Bool.eq_false_iff.mp hbit))
  · exact .cleared ((flag_cleared_or_kept x.err _).left hbit) (if_pos hbit)

theorem step_errorChange {s t : State} (hstep : step s = .next t) : ErrorChange s.status t.status := by
  cases step_cases s t hstep with
  | idle _ ht | arg0 _ _ _ ht | arg1 _ _ _ ht | arg2 _ _ _ ht | read _ _ _ ht | encoder _ _ _ _ ht
  | current _ _ _ _ ht => subst ht; exact .kept rfl rfl
  | malformed write _ _ ht => rw [ht, malformedAccess_eq]; exact .kept rfl rfl
  | reset _ ht => subst ht; exact .cleared rfl rfl
  | clear v _ _ ht => subst ht; exact .of_clearedStatus v s.status
  | illegal _ _ _ ht => subst ht; exact .recorded .illegalCmd rfl rfl
  | config c v _ _ ht =>
    obtain ⟨-, hwrite⟩ | ⟨-, hwrite⟩ := writeCfg_cases c v (takeMove s) <;> rw [ht, hwrite]
    · exact .kept rfl rfl
    · exact .recorded .badCfgWrite rfl rfl
  | command c _ hexec =>
    obtain ⟨code, -, rfl⟩ | ⟨-, heffect⟩ := command_cases c _ t hexec
    · exact .recorded code rfl rfl
    · exact .kept heffect.keepsErrorAndCfg.err heffect.keepsErrorAndCfg.ecode

theorem ecodeOf_range (code : RefusalCode) : 1 ≤ (ecodeOf code).toNat ∧ (ecodeOf code).toNat ≤ 7 := by
  cases code <;> decide

theorem ErrorChange.keeps_coherent {x y : Status} (hchange : ErrorChange x y) (h : ErrorCodeCoherent x) :
    ErrorCodeCoherent y := by
  unfold ErrorCodeCoherent at h ⊢
  cases hchange with
  | kept herr hecode => rwa [herr, hecode]
  | recorded code herr hecode =>
    rw [herr, hecode]
    exact ⟨fun hno => absurd hno (by decide), fun _ => ecodeOf_range code⟩
  | cleared herr hecode =>
    rw [herr, hecode]
    exact ⟨fun _ => rfl, fun hno => absurd hno (by decide)⟩

/-! The configuration registers (spec/44_bus.md R286 to R289, spec/43_diffdrive.md R231). -/

/-- What can become of the configuration registers: they are kept, one takes a legal value, or the reset zeroes them
all. -/
inductive CfgChange (s t : State) : Prop where
  | kept (hcfg : t.cfg = s.cfg)
  | written (c : CfgReg) (v : Word) (hlegal : cfgLegal c v = true) (hcfg : t.cfg = cfgWrite s.cfg c v)
  | reset (hcfg : t.cfg = Cfg.reset) (hready : t.status.ready = false)

theorem step_cfgChange {s t : State} (hstep : step s = .next t) : CfgChange s t := by
  cases step_cases s t hstep with
  | idle _ ht | arg0 _ _ _ ht | arg1 _ _ _ ht | arg2 _ _ _ ht | read _ _ _ ht | encoder _ _ _ _ ht
  | current _ _ _ _ ht | clear _ _ _ ht | illegal _ _ _ ht => subst ht; exact .kept rfl
  | malformed write _ _ ht => rw [ht, malformedAccess_eq]; exact .kept rfl
  | reset _ ht => subst ht; exact .reset rfl rfl
  | config c v _ _ ht =>
    obtain ⟨hlegal, hwrite⟩ | ⟨-, hwrite⟩ := writeCfg_cases c v (takeMove s) <;> rw [ht, hwrite]
    · exact .written c v hlegal rfl
    · exact .kept rfl
  | command c _ hexec =>
    obtain ⟨code, -, rfl⟩ | ⟨-, heffect⟩ := command_cases c _ t hexec
    · exact .kept rfl
    · exact .kept heffect.keepsErrorAndCfg.cfg

theorem configLegal_reset : ConfigLegal Cfg.reset := by
  intro c
  cases c <;> exact .inr rfl

theorem ConfigLegal.write {x : Cfg} (h : ConfigLegal x) {c : CfgReg} {v : Word} (hlegal : cfgLegal c v = true) :
    ConfigLegal (cfgWrite x c v) := by
  intro c'
  rw [cfgRead_cfgWrite]
  split
  next heq => exact .inl (heq ▸ hlegal)
  next => exact h c'

/-- A legal value of the geometry or the resolution is above 0, and the other registers are not in INIT's check. -/
theorem configUsable_write {x : Cfg} (h : configUsable x = true) {c : CfgReg} {v : Word}
    (hlegal : cfgLegal c v = true) : configUsable (cfgWrite x c v) = true := by
  cases c with
  | kp | ki | kd | powerLimit | kt | angMult | cmdTimeout | polarity => exact h
  | ticksPerRad | wheelRadius | wheelSep =>
    simp only [configUsable, cfgLegal, Bool.and_eq_true] at h hlegal
    simp only [configUsable, cfgWrite, h, hlegal, Bool.and_self]

theorem configUsable_of_init_accepted {s : State} (h : refusalOf .init s = none) : configUsable s.cfg = true := by
  simp only [refusalOf] at h
  split_ifs at h with hready husable
  exact husable

/-- READY after a step was there before it, or INIT's check has just been passed (O56); in both cases the geometry and
the resolution were above 0. -/
theorem ConfigInv.usable_before {s t : State} (h : ConfigInv s) (hstep : step s = .next t)
    (hready : t.status.ready = true) : configUsable s.cfg = true := by
  obtain ⟨-, husable⟩ := h
  cases hs : s.status.ready
  · obtain ⟨hinit, -⟩ := readyIsSetByInitOnly s t hstep
    obtain ⟨-, hnone⟩ := (hinit hs).mp hready
    exact configUsable_of_init_accepted hnone
  · exact husable hs

theorem ConfigInv.step {s t : State} (h : ConfigInv s) (hstep : step s = .next t) : ConfigInv t := by
  have ⟨hlegal, _⟩ := h
  have hbefore := h.usable_before hstep
  cases step_cfgChange hstep with
  | kept hcfg => exact ⟨hcfg ▸ hlegal, fun hready => hcfg ▸ hbefore hready⟩
  | written c v hv hcfg =>
    exact ⟨hcfg ▸ hlegal.write hv, fun hready => hcfg ▸ configUsable_write (hbefore hready) hv⟩
  | reset hcfg hready => exact ⟨hcfg ▸ configLegal_reset, by simp [hready]⟩

/-- Settles O53, from what a step can do to each of the two. -/
theorem stepKeepsErrorCodeAndConfigurationLegal : Obligations.StepKeepsErrorCodeAndConfigurationLegal :=
  fun _ _ hstep => ⟨(step_errorChange hstep).keeps_coherent, fun h => h.step hstep⟩

end Sys2Proof.Machine
end

section
/-! The reset (spec/70_reset_and_hazards.md R340 to R342): the state it leaves, at power-on or by the reset input, and
that until INIT succeeds no step moves the wheels, the odometry or the time registers. -/

namespace Sys2Proof.Machine

/-! Registers and ports at their reset values (R341). -/

theorem statusWord_reset : statusWord Status.reset = 0 := rfl

theorem cfgRead_reset (c : CfgReg) : cfgRead Cfg.reset c = 0 := by cases c <;> rfl

theorem wheelRead_reset (winN : Word) (r : WheelReg) : wheelRead (Wheel.reset winN) r = 0 := by cases r <;> rfl

/-- The power-on state is one the reset input leaves alone, so that what holds after RST holds after power-on. -/
theorem coreReset_reset : coreReset State.reset = State.reset := rfl

theorem readReg_coreReset (s : State) {r : Reg} (hwinN : r ≠ .paramWinN) (hpwmCeil : r ≠ .paramPwmCeil)
    (hwEnc : r ≠ .paramWEnc) : readReg (coreReset s) r = 0 := by
  cases r with
  | paramWinN | paramPwmCeil | paramWEnc => contradiction
  | status => exact statusWord_reset
  | res k => exact Vector.getElem_replicate k.isLt
  | cfg c => exact cfgRead_reset c
  | wheel w r =>
    rw [readReg, coreReset_wheel]
    exact wheelRead_reset _ r
  | cmd | arg0 | arg1 | arg2 | poseX | poseY | poseTh | odomVLin | odomVAng | nowMs | lastCmdMs => rfl

/-- A wheel at reset is Disabled and has no power. -/
theorem wheelDisable_reset (winN : Word) : wheelDisable (Wheel.reset winN) = Wheel.reset winN := rfl

/-- Every window is empty slots, and the ports drive nothing. -/
theorem window_and_ports_coreReset (s : State) (w : WheelId) :
    ((coreReset s).wheel w).buf = List.replicate s.params.winN.toNat ⟨0, 0⟩ ∧ pwrOut (coreReset s) w = 0 ∧
      drvEn (coreReset s) w = false := by
  have hwheel := coreReset_wheel s w
  exact ⟨congrArg Wheel.buf hwheel, ports_of_wheelDisable (hwheel.trans (wheelDisable_reset _).symm)⟩

/-- Settles O19: the move is the reset of the core, which keeps the parameters and is given the channels, the read data
and the moves to come. -/
theorem resetInputResetsTheCoreOnly : Obligations.ResetInputResetsTheCoreOnly := by
  intro s ms hinbox
  obtain ⟨-, -, -, -, -, hreset⟩ := step_cons s .rst ms hinbox
  refine ⟨_, hreset rfl, fun r => ?_, window_and_ports_coreReset _, rfl, rfl, rfl⟩
  split
  next => rfl
  next => rfl
  next => rfl
  next hwinN hpwmCeil hwEnc => exact readReg_coreReset _ hwinN hpwmCeil hwEnc

/-- The open parameters are legal by their types (spec/00_scope.md R5). -/
theorem paramsLegal_open : ParamsLegal Params.open := by
  have hwinN := Config.winNPred.isLt
  have hpwmCeil := Config.pwmCeilPred.isLt
  have hwEnc := Config.wEncPred.isLt
  simp only [ParamsLegal, Params.open, Config.winN, Config.pwmCeil, Config.wEnc, BitVec.toNat_ofNat]
  omega

/-- Settles O20: the power-on state is the one RST leaves, with the open parameters. -/
theorem resetStateRegisters : Obligations.ResetStateRegisters :=
  ⟨fun _ => readReg_coreReset State.reset, rfl, rfl, rfl, paramsLegal_open, window_and_ports_coreReset State.reset⟩

/-! The phase before INIT (R342, spec/43_diffdrive.md R247). -/

theorem beforeInitInv_coreReset (s : State) : BeforeInitInv (coreReset s) := fun _ => ⟨rfl, rfl, rfl, rfl, rfl, rfl⟩

/-- A write to STATUS clears flags and sets none. -/
theorem BeforeInitInv.clearErrors {s : State} (h : BeforeInitInv s) (v : Word) : BeforeInitInv (clearErrors v s) := by
  intro hready
  obtain ⟨hwheels, hodom, hnow, hlast, htimeout, hnumErr⟩ := h hready
  refine ⟨hwheels, hodom, hnow, hlast, htimeout, ?_⟩
  rw [clearErrors_status, clearedStatus, hnumErr, Bool.false_and]

/-- An operation that leaves every wheel as it is leaves the state as it is. -/
theorem DoneOnChosen.eq_self {chosen : WheelId → Bool} {f : Wheel → Wheel} {s t : State}
    (h : DoneOnChosen chosen f s t) (hf : ∀ w, f (s.wheel w) = s.wheel w) : t = s := by
  obtain ⟨hframe, hwheel⟩ := h
  have hwheels : t.wheels = s.wheels := PerWheel.eq_of_get fun w => by
    have hw := hwheel w
    rwa [hf, ite_self] at hw
  rw [hframe, hwheels]

/-- The commands accepted before INIT leave wheels and odometry at reset: Disable and RESET_ODOM write the values that
stand there, and every other command that would move them needs READY. -/
theorem CommandEffect.beforeInitInv {c : Command} {s t : State} (heffect : CommandEffect c s t)
    (h : BeforeInitInv s) : BeforeInitInv t := by
  intro hready
  rw [heffect.frame.ready, Bool.or_eq_false_iff, decide_eq_false_iff_not] at hready
  obtain ⟨hready, hinit⟩ := hready
  have hreset := h hready
  have ⟨hwheels, hodom, htimes⟩ := hreset
  have hwheel (w : WheelId) : s.wheel w = Wheel.reset s.params.winN := by
    rw [State.wheel, hwheels, PerWheel.get_all]
  have hdisable (w : WheelId) : wheelDisable (s.wheel w) = s.wheel w := by rw [hwheel, wheelDisable_reset]
  cases c with
  | init => contradiction
  | nop => subst heffect; exact hreset
  | getOdom | getWheelStates | wGetState =>
    obtain ⟨r, rfl⟩ := heffect
    exact hreset
  | disableAll =>
    obtain rfl := heffect.trans ((doneOnChosen_onWheels _ s).eq_self hdisable)
    exact hreset
  | wDisable v =>
    obtain rfl := heffect.trans ((doneOnChosen_onWheel v _ s).eq_self hdisable)
    exact hreset
  | resetOdom =>
    have hdistance (w : WheelId) : { s.wheel w with distTicks := 0 } = s.wheel w := by rw [hwheel]; rfl
    obtain rfl := heffect.trans ((doneOnChosen_onWheels _ _).eq_self hdistance)
    exact ⟨hwheels, by rw [State.setOdom_odom, hodom]; rfl, htimes⟩
  | tick | setSpeed | enableAll | wEnable | wSetTarget | pidReset | pidSetCoeffs | pidSetRange =>
    simp [CommandEffect, hready] at heffect

theorem BeforeInitInv.step {s t : State} (h : BeforeInitInv s) (hstep : step s = .next t) : BeforeInitInv t := by
  cases step_cases s t hstep with
  | idle _ ht | arg0 _ _ _ ht | arg1 _ _ _ ht | arg2 _ _ _ ht | read _ _ _ ht | encoder _ _ _ _ ht
  | current _ _ _ _ ht | illegal _ _ _ ht => subst ht; exact h
  | malformed write _ _ ht => rw [ht, malformedAccess_eq]; exact h
  | config c v _ _ ht =>
    obtain ⟨-, hwrite⟩ | ⟨-, hwrite⟩ := writeCfg_cases c v (takeMove s) <;> rw [ht, hwrite] <;> exact h
  | clear v _ _ ht => subst ht; exact BeforeInitInv.clearErrors (s := takeMove s) h v
  | reset _ ht => subst ht; exact beforeInitInv_coreReset _
  | command c _ hexec =>
    obtain ⟨code, -, rfl⟩ | ⟨-, heffect⟩ := command_cases c _ t hexec
    · exact h
    · exact heffect.beforeInitInv h

/-- Settles O54, by what the step does. -/
theorem stepKeepsWheelsAtResetUntilInit : Obligations.StepKeepsWheelsAtResetUntilInit := fun _ _ h hstep => h.step hstep

/-! The invariants after reset. -/

/-- What the model gives the channels at power-on (log 8). -/
theorem reset_channel (w : WheelId) : State.reset.channel w = { encCnt := 0, iWind := 0 } := PerWheel.get_all _ w

theorem errorCodeCoherent_reset : ErrorCodeCoherent Status.reset := ⟨fun _ => rfl, nofun⟩

theorem powerSafe_reset (pwmCeil winN : Word) : PowerSafe pwmCeil (Wheel.reset winN) :=
  .of_zero rfl ⟨0, Nat.zero_le _, u2f_zero.symm⟩

/-- Settles O55: the parameters are legal, and each invariant holds of the reset values of its registers. -/
theorem resetMeetsTheInvariants : Obligations.ResetMeetsTheInvariants := by
  have ⟨⟨hwinN, _⟩, _⟩ := paramsLegal_open
  have hwheel := coreReset_wheel State.reset
  rw [coreReset_reset] at hwheel
  refine ⟨⟨paramsLegal_open, fun w => ?_⟩, ⟨paramsLegal_open, fun w => ?_⟩, fun w => ⟨?_, ?_⟩,
    errorCodeCoherent_reset, ⟨configLegal_reset, nofun⟩, beforeInitInv_coreReset State.reset⟩
  · rw [hwheel]
    exact windowOk_reset hwinN
  · rw [hwheel]
    exact powerSafe_reset _ _
  · rw [hwheel]
    exact Nat.two_pow_pos _
  · rw [reset_channel]
    exact Nat.two_pow_pos _

end Sys2Proof.Machine
end
